-- ==== Sys2Proof/Word.lean ====
section
/-! DEFINITION. The word types of CRC32P (spec/00_scope.md R6): every value is unsigned. -/

namespace Sys2Proof

/-- `u32` of R6: register contents, WDATA, RDATA and every intermediate CRC value (R82). -/
abbrev Word := BitVec 32

/-- `u8` of R6: one message byte, or one transaction descriptor. -/
abbrev Byte := BitVec 8

end Sys2Proof
end

