-- ==== Sys2Proof/Syntax.lean ====
section
/-! DEFINITION. The syntax of CRC32P: one transaction as the port carries it (spec/30_encoding.md R60), the bus error
causes (spec/60_exceptions.md R162), and one constructor of `Instr` for each row of spec/opcode_table.json. -/

namespace Sys2Proof

/-- A transaction: "an 8-bit descriptor plus a 32-bit WDATA operand" (R60). -/
structure Txn where
  desc  : Byte
  wdata : Word
  deriving DecidableEq, Repr

/-- The causes of a bus error that are ever recorded (R162), codes 1 to 4 in this order. -/
inductive Cause where
  /-- Code 1: OFF is no register's offset. -/
  | unmapped
  /-- Code 2: a read of CTRL or DATA, or a write of RESULT or STATUS. -/
  | direction
  /-- Code 3: SZ = 11, or SZ ≠ 10 on a register other than DATA. -/
  | size
  /-- Code 4: a CTRL write with WDATA[31:2] ≠ 0. -/
  | rsvdBits
  deriving DecidableEq, Repr

/-- The registers of the window (R43, R29). -/
inductive Reg where
  | ctrl | data | result | expect | status
  deriving DecidableEq, Repr

/-- One constructor for each row of spec/opcode_table.json. WDATA is carried whole, as the port carries it: what a
meaning ignores of it (R62) is ignored there, not dropped here (log entry 5). -/
inductive Instr where
  /-- CTRL_WR, R100. -/
  | ctrlWr (wdata : Word)
  /-- DATA_WR8, R110. -/
  | dataWr8 (wdata : Word)
  /-- DATA_WR16, R111. -/
  | dataWr16 (wdata : Word)
  /-- DATA_WR32, R112. -/
  | dataWr32 (wdata : Word)
  /-- RESULT_RD, R120. -/
  | resultRd (wdata : Word)
  /-- EXPECT_WR, R121. -/
  | expectWr (wdata : Word)
  /-- EXPECT_RD, R122. -/
  | expectRd (wdata : Word)
  /-- STATUS_RD, R123. -/
  | statusRd (wdata : Word)
  /-- BUSERR, the table's default row, R161: the transaction `(desc, wdata)` the decoder rejects, with its cause. -/
  | busErr (cause : Cause) (desc : Byte) (wdata : Word)
  deriving DecidableEq, Repr

end Sys2Proof
end

