-- ==== Sys2Proof/WellFormed.lean ====
section
/-! DEFINITION. Well-formed instructions. Written from the tables of spec/60_exceptions.md R162 (the descriptor lists of
each cause) and from R100, not from the decoder's chain of checks (spec/30_encoding.md R64): that the two agree is a
statement (decode after encode), not a definition. -/

namespace Sys2Proof

/-- The offsets that name a register (R45, R162): 0x00, 0x04, 0x08, 0x0C, 0x10. -/
def mappedOffsets : List Nat := [0x00, 0x04, 0x08, 0x0C, 0x10]

/-- R162, row 2: the 16 descriptors that raise DIRECTION. -/
def directionDescs : List Byte :=
  [0x00, 0x20, 0x40, 0x60, 0x04, 0x24, 0x44, 0x64] ++ [0x88, 0xA8, 0xC8, 0xE8, 0x90, 0xB0, 0xD0, 0xF0]

/-- R162, row 3: the 16 descriptors that raise SIZE. -/
def sizeDescs : List Byte :=
  [0x80, 0xA0, 0xE0, 0xE4, 0x08, 0x28, 0x68, 0x8C] ++ [0xAC, 0xEC, 0x0C, 0x2C, 0x6C, 0x10, 0x30, 0x70]

/-- Which transactions raise a cause, by R162's table. -/
def Cause.raisedBy (desc : Byte) (wdata : Word) : Cause → Bool
  | .unmapped => !mappedOffsets.contains (desc.toNat % 32)
  | .direction => directionDescs.contains desc
  | .size => sizeDescs.contains desc
  | .rsvdBits => desc == 0xC0 && decide (4 ≤ wdata.toNat)

/-- A CTRL_WR has WDATA[31:2] = 0 (R100), so WDATA is below 4. A bus error carries a transaction that raises its cause.
Every other instruction is well formed with any WDATA. -/
def Instr.wf : Instr → Bool
  | .ctrlWr wdata => decide (wdata.toNat < 4)
  | .dataWr8 _ => true
  | .dataWr16 _ => true
  | .dataWr32 _ => true
  | .resultRd _ => true
  | .expectWr _ => true
  | .expectRd _ => true
  | .statusRd _ => true
  | .busErr cause desc wdata => cause.raisedBy desc wdata

end Sys2Proof
end

