-- ==== Sys2Proof/Decode.lean ====
section
/-! DEFINITION. The decoder of spec/30_encoding.md R64, total over every descriptor and every WDATA, and after it the
encoder, written from the opcode map R63 with the field layout of R60. -/

namespace Sys2Proof

/-! ### The fields of the descriptor (R60, pattern `WSSOOOOO`) -/

/-- WE, bit 7: 1 = write, 0 = read. -/
def Txn.isWrite (t : Txn) : Bool := t.desc.getLsbD 7

/-- SZ, bits 6:5. -/
def Txn.sizeCode (t : Txn) : BitVec 2 := t.desc.extractLsb' 5 2

/-- OFF, bits 4:0. -/
def Txn.offset (t : Txn) : BitVec 5 := t.desc.extractLsb' 0 5

/-- The descriptor of the three port fields `req_we`, `req_sz`, `req_off` (R60). -/
def packDesc (write : Bool) (sizeCode : BitVec 2) (offset : BitVec 5) : Byte :=
  BitVec.ofBool write ++ sizeCode ++ offset

/-- R61: the size in bytes of a size code; 11 is reserved and has none. -/
def accessBytes (sizeCode : BitVec 2) : Option Nat :=
  match sizeCode.toNat with
  | 0 => some 1
  | 1 => some 2
  | 2 => some 4
  | _ => none

/-- The reserved bits 31:2 of a CTRL write (R26). -/
def ctrlReserved (wdata : Word) : BitVec 30 := wdata.extractLsb' 2 30

/-! ### The decoder (R64) -/

/-- The address map (R43): the register an offset names, if it names one. -/
def regAt (offset : BitVec 5) : Option Reg :=
  match offset.toNat with
  | 0x00 => some .ctrl
  | 0x04 => some .data
  | 0x08 => some .result
  | 0x0C => some .expect
  | 0x10 => some .status
  | _ => none

/-- R64, second check: a write of RESULT or STATUS, or a read of CTRL or DATA. -/
def wrongDirection (write : Bool) : Reg → Bool
  | .result => write
  | .status => write
  | .ctrl => !write
  | .data => !write
  | .expect => false

/-- R64's checks in its order; the first that applies is the cause. None means the transaction is legal. -/
def causeOf (t : Txn) : Option Cause :=
  match regAt t.offset with
  | none => some .unmapped
  | some reg =>
    if wrongDirection t.isWrite reg then some .direction
    else if t.sizeCode = 0b11 then some .size
    else if reg ≠ .data ∧ t.sizeCode ≠ 0b10 then some .size
    else if reg = .ctrl ∧ ctrlReserved t.wdata ≠ 0 then some .rsvdBits
    else none

/-- R63's row of a legal transaction to `reg`: DATA is told apart by its size, EXPECT by its direction. -/
def rowOf (reg : Reg) (write : Bool) (sizeCode : BitVec 2) (wdata : Word) : Instr :=
  match reg with
  | .ctrl => .ctrlWr wdata
  | .data => if sizeCode = 0b00 then .dataWr8 wdata else if sizeCode = 0b01 then .dataWr16 wdata else .dataWr32 wdata
  | .result => .resultRd wdata
  | .expect => if write then .expectWr wdata else .expectRd wdata
  | .status => .statusRd wdata

/-- `decode` of R64. It rejects by name: an illegal transaction decodes to the bus error with its cause. -/
def decode (t : Txn) : Instr :=
  match causeOf t, regAt t.offset with
  | some cause, _ => .busErr cause t.desc t.wdata
  | none, some reg => rowOf reg t.isWrite t.sizeCode t.wdata
  | none, none => .busErr .unmapped t.desc t.wdata

/-! ### The encoder (R63) -/

/-- The transaction of an instruction: R63's WE, SZ and OFF, with the operand in WDATA. -/
def encode : Instr → Txn
  | .ctrlWr wdata => ⟨packDesc true 0b10 0x00, wdata⟩
  | .dataWr8 wdata => ⟨packDesc true 0b00 0x04, wdata⟩
  | .dataWr16 wdata => ⟨packDesc true 0b01 0x04, wdata⟩
  | .dataWr32 wdata => ⟨packDesc true 0b10 0x04, wdata⟩
  | .resultRd wdata => ⟨packDesc false 0b10 0x08, wdata⟩
  | .expectWr wdata => ⟨packDesc true 0b10 0x0C, wdata⟩
  | .expectRd wdata => ⟨packDesc false 0b10 0x0C, wdata⟩
  | .statusRd wdata => ⟨packDesc false 0b10 0x10, wdata⟩
  | .busErr _ desc wdata => ⟨desc, wdata⟩

/-! ### Instructions as numbers, for spec/opcode_table.json -/

/-- The transaction of a number: the descriptor in bits 7:0 as the table numbers them, then WDATA from bit 8 up
(log entry 4). Bits from `nbits` up are 0. -/
def tableTxn (nbits w : Nat) : Txn :=
  let bits := w % 2 ^ nbits
  ⟨BitVec.ofNat 8 bits, BitVec.ofNat 32 (bits / 2 ^ 8)⟩

/-- The decoder on a number of `nbits` bits: a whole descriptor at least, a descriptor and WDATA at most. -/
def decodeTableWord (nbits w : Nat) : Option Instr :=
  if 8 ≤ nbits ∧ nbits ≤ 40 then some (decode (tableTxn nbits w)) else none

end Sys2Proof
end

