-- ==== Sys2Proof/Machine/Crc.lean ====
section
/-! DEFINITION. The CRC-32/PNG function (spec/40_crc_function.md): the parameters (R80), the reflected algorithm the block
computes (R83 to R86), the table form (R87), and the MSB-first register algorithm that R81 gives as the meaning of the
parameters. Only XOR, AND, shifts and equality (R82). -/

namespace Sys2Proof.Machine

open Sys2Proof

/-! ### The parameters (R80) -/

/-- The generator polynomial in normal form; the x^32 term is implicit. -/
def poly : Word := 0x04C11DB7

/-- "init". -/
def initValue : Word := 0xFFFFFFFF

/-- "xorout". -/
def xorOut : Word := 0xFFFFFFFF

/-- `P_R = rev_32(0x04C11DB7)` (R83). -/
def polyReflected : Word := 0xEDB88320

/-! ### The reflected algorithm (R84 to R86) -/

/-- The one-bit step (R84). -/
def step1 (a : Word) : Word := if a.getLsbD 0 then (a >>> 1) ^^^ polyReflected else a >>> 1

/-- `step1` applied n times. -/
def steps : Nat → Word → Word
  | 0, a => a
  | n + 1, a => steps n (step1 a)

/-- The byte update (R85): eight one-bit steps on the accumulator with the byte added. -/
def upd (a : Word) (b : Byte) : Word := steps 8 (a ^^^ b.setWidth 32)

/-- The message function (R86). -/
def absorb (a : Word) : List Byte → Word
  | [] => a
  | b :: m => absorb (upd a b) m

/-- `crc32` (R86). -/
def crc32 (m : List Byte) : Word := absorb initValue m ^^^ xorOut

/-! ### The table form (R87) -/

/-- `T[i] = step1^8(zext_32(i))`. -/
def tableEntry (i : Byte) : Word := steps 8 (i.setWidth 32)

/-- The byte update by table. -/
def updByTable (a : Word) (b : Byte) : Word := (a >>> 8) ^^^ tableEntry ((a ^^^ b.setWidth 32).setWidth 8)

/-! ### The MSB-first register algorithm (R81) -/

/-- One turn of R81's inner loop. -/
def msbStep1 (reg : Word) : Word := if reg.getLsbD 31 then (reg <<< 1) ^^^ poly else reg <<< 1

/-- `msbStep1` applied n times. -/
def msbSteps : Nat → Word → Word
  | 0, reg => reg
  | n + 1, reg => msbSteps n (msbStep1 reg)

/-- One byte of R81's outer loop: `reg ^ (rev_8(b) << 24)`, then eight turns. -/
def msbUpd (reg : Word) (b : Byte) : Word := msbSteps 8 (reg ^^^ (b.reverse.setWidth 32 <<< 24))

/-- R81's outer loop. -/
def msbAbsorb (reg : Word) : List Byte → Word
  | [] => reg
  | b :: m => msbAbsorb (msbUpd reg b) m

/-- R81: `crc32(m) = rev_32(reg) ^ 0xFFFFFFFF`. -/
def crc32Msb (m : List Byte) : Word := (msbAbsorb initValue m).reverse ^^^ xorOut

end Sys2Proof.Machine
end

