-- ==== Sys2Proof/Machine/State.lean ====
section
/-! DEFINITION. The state of CRC32P as plain data: the 70 bits of spec/10_state.md R20 and the two sides of the port
(what the host has presented, what the block answered last), and the state after reset (R180). -/

namespace Sys2Proof.Machine

open Sys2Proof

/-- The answer to a transaction (R8, R41): okay with RDATA, or a bus error, whose RDATA is 0 (R161). -/
inductive Response where
  | okay (rdata : Word)
  | error
  deriving DecidableEq, Repr

/-- What the host may do (R140): present a transaction, or assert `rst`. `inFlight` is the transaction the block had
accepted and not yet answered when `rst` rose, if there was one: R181 drops it. -/
inductive HostMove where
  | request (txn : Txn)
  | reset (inFlight : Option Txn)
  deriving DecidableEq, Repr

/-- Why a step stops with a fault: never. "The block never faults, hangs or refuses" (R8): an illegal transaction is
answered with a bus error, which is a next state (R161). -/
inductive Fault where
  deriving DecidableEq, Repr

/-- Why a step is refused. -/
inductive Refusal where
  /-- Raised only by an arm of `exec` whose instruction has no meaning yet; no arm does. Safe. -/
  | notModelled (mnemonic : String)
  deriving DecidableEq, Repr

/-- The first six fields are R20's, "and nothing else"; the last two are the model's own (log entries 1 and 2). -/
structure State where
  /-- ACC (R21): the reflected CRC register before the final XOR. -/
  acc : Word
  /-- EXPECT (R22): the last value an EXPECT_WR wrote. -/
  expect : Word
  /-- STATUS.OK (R23). -/
  ok : Bool
  /-- STATUS.MISMATCH (R23). -/
  mismatch : Bool
  /-- STATUS.ERR (R23), sticky. -/
  err : Bool
  /-- STATUS.ERR_CAUSE (R23), 3 bits. -/
  errCause : BitVec 3
  /-- The host's moves not yet taken, oldest first. -/
  inputs : List HostMove
  /-- The port's answer in the last step, if it gave one. -/
  response : Option Response
  deriving DecidableEq, Repr

/-- The reset state (R180): every register at the spec's value; nothing presented and nothing answered. -/
def State.reset : State where
  acc := 0xFFFFFFFF
  expect := 0x00000000
  ok := false
  mismatch := false
  err := false
  errCause := 0
  inputs := []
  response := none

end Sys2Proof.Machine
end

