-- ==== Sys2Proof/Machine/Ops.lean ====
section
/-! DEFINITION. The named operations over the registers and the port. Every write of a field goes through one of the
`with…` updates; taking a bus error (spec/60_exceptions.md R161) is the one operation `State.busError`, and what
re-arms its record (R166) stands beside it. -/

namespace Sys2Proof.Machine

open Sys2Proof

/-! ### Updates of one field or one pair of fields -/

def State.withAcc (v : Word) (s : State) : State := { s with acc := v }
def State.withExpect (v : Word) (s : State) : State := { s with expect := v }
def State.withCompare (ok mismatch : Bool) (s : State) : State := { s with ok := ok, mismatch := mismatch }
def State.withError (err : Bool) (errCause : BitVec 3) (s : State) : State := { s with err := err, errCause := errCause }
def State.withInputs (inputs : List HostMove) (s : State) : State := { s with inputs := inputs }
def State.withResponse (response : Option Response) (s : State) : State := { s with response := response }

/-! ### The port -/

/-- "respond okay(v)" (R7): the transaction completes with RDATA = v. -/
def State.respondOkay (v : Word) (s : State) : Host.Outcome State Fault Refusal := .next (s.withResponse (some (.okay v)))

/-- RDATA of a response: an error response has RDATA = 0 (R7, R161). -/
def Response.rdata : Response → Word
  | .okay v => v
  | .error => 0x00000000

/-- `rsp_err` of a response (R7, R42). -/
def Response.isError : Response → Bool
  | .okay _ => false
  | .error => true

/-- The host's oldest move, and the state without it (R42: requests are taken in the order presented). -/
def State.takeMove (s : State) : Option (HostMove × State) :=
  match s.inputs with
  | [] => none
  | move :: rest => some (move, s.withInputs rest)

/-- A step with nothing presented: every register is kept (R173) and nothing is answered (log entry 3). -/
def State.idle (s : State) : State := s.withResponse none

/-- `rst` asserted (R181): every register at its reset value, a transaction in flight dropped without a response. The
host's later moves are still to come. -/
def State.assertReset (_inFlight : Option Txn) (s : State) : State := State.reset.withInputs s.inputs

/-! ### The registers -/

/-- The RESULT register, a view of ACC (R28). -/
def State.result (s : State) : Word := s.acc ^^^ xorOut

/-- INIT (R100): the source's initial value into ACC, OK and MISMATCH to 0. -/
def State.startMessage (s : State) : State := (s.withAcc initValue).withCompare false false

/-- What a DATA write does with its bytes (R110 to R112): absorb them in order, OK and MISMATCH to 0. -/
def State.feed (bytes : List Byte) (s : State) : State := (s.withAcc (absorb s.acc bytes)).withCompare false false

/-- The compare of EXPECT_WR (R121): EXPECT holds the value, and one of OK and MISMATCH is set. -/
def State.checkExpect (v : Word) (s : State) : State :=
  (s.withExpect v).withCompare (decide (v = s.result)) (decide (v ≠ s.result))

/-! ### The bus error -/

/-- The code of a cause (R162); 0 is never a cause's code. -/
def causeCode : Cause → BitVec 3
  | .unmapped => 1
  | .direction => 2
  | .size => 3
  | .rsvdBits => 4

/-- R161 and R163: the first error since ERR was last 0 is recorded, a later one changes nothing. -/
def State.recordError (cause : Cause) (s : State) : State :=
  if s.err then s else s.withError true (causeCode cause)

/-- TAKING A BUS ERROR (R161): record it, and respond error; ACC, EXPECT, OK and MISMATCH are unchanged. -/
def State.busError (cause : Cause) (s : State) : Host.Outcome State Fault Refusal :=
  .next ((s.recordError cause).withResponse (some .error))

/-- CLR_ERR (R100): ERR and ERR_CAUSE to 0. There is no return operation (R166); this re-arms the record. -/
def State.clearError (s : State) : State := s.withError false 0

end Sys2Proof.Machine
end

