-- ==== Sys2Proof/Machine/BusError.lean ====
section
/-! DEFINITION. The table's default row (spec/60_exceptions.md R161): a transaction the decoder rejects. -/

namespace Sys2Proof.Machine

open Sys2Proof

/-- BUSERR (R161): the bus error of the decoder's cause; neither the descriptor nor WDATA is recorded (R162). -/
def execBusErr (cause : Cause) (s : State) : Host.Outcome State Fault Refusal := s.busError cause

end Sys2Proof.Machine
end

