-- ==== Sys2Proof/Machine/Operands.lean ====
section
/-! DEFINITION. Operand assembly (spec/30_encoding.md R62): WDATA is the only operand. Byte lanes and their order
(spec/42_data.md R114, spec/20_memory.md R44), the CTRL fields (spec/10_state.md R26), and words from bytes. -/

namespace Sys2Proof.Machine

open Sys2Proof

/-- Lane i is WDATA[8i+7:8i] (R114). -/
def byteLane (i : Nat) (w : Word) : Byte := w.extractLsb' (8 * i) 8

/-- The n low lanes of a word from the highest to lane 0: the order in which a DATA write feeds them (R44(a), R114), and
the order of a big-endian word's bytes on the wire (R143). -/
def laneBytes : Nat → Word → List Byte
  | 0, _ => []
  | n + 1, w => byteLane n w :: laneBytes n w

/-- The four bytes of a big-endian word, most significant first. -/
def wordOfBytes (b3 b2 b1 b0 : Byte) : Word := b3 ++ b2 ++ b1 ++ b0

/-- A word with its four bytes in the opposite order, as a little-endian host must reorder a loaded word (R146). -/
def byteReverse (w : Word) : Word := wordOfBytes (byteLane 0 w) (byteLane 1 w) (byteLane 2 w) (byteLane 3 w)

/-- CTRL bit 0 (R26). -/
def ctrlInit (w : Word) : Bool := w.getLsbD 0

/-- CTRL bit 1 (R26). -/
def ctrlClrErr (w : Word) : Bool := w.getLsbD 1

end Sys2Proof.Machine
end

