-- ==== Sys2Proof/Machine/Control.lean ====
section
/-! DEFINITION. The control family (spec/41_control.md). -/

namespace Sys2Proof.Machine

open Sys2Proof

/-- CTRL_WR (R100). The decoder has already raised RSVD_BITS where WDATA[31:2] ≠ 0. INIT and CLR_ERR are independent and
write disjoint state (D35), so their order does not matter; with neither it is the NOP (D34). -/
def execCtrlWr (wdata : Word) (s : State) : Host.Outcome State Fault Refusal :=
  let afterInit := if ctrlInit wdata then s.startMessage else s
  let afterClear := if ctrlClrErr wdata then afterInit.clearError else afterInit
  afterClear.respondOkay 0

end Sys2Proof.Machine
end

