-- ==== Sys2Proof/Machine/Data.lean ====
section
/-! DEFINITION. The data family (spec/42_data.md): the low n lanes of WDATA are absorbed from the highest to lane 0; the
bits above are ignored (spec/30_encoding.md R62). -/

namespace Sys2Proof.Machine

open Sys2Proof

/-- DATA_WR8 (R110). -/
def execDataWr8 (wdata : Word) (s : State) : Host.Outcome State Fault Refusal := (s.feed (laneBytes 1 wdata)).respondOkay 0

/-- DATA_WR16 (R111). -/
def execDataWr16 (wdata : Word) (s : State) : Host.Outcome State Fault Refusal := (s.feed (laneBytes 2 wdata)).respondOkay 0

/-- DATA_WR32 (R112). -/
def execDataWr32 (wdata : Word) (s : State) : Host.Outcome State Fault Refusal := (s.feed (laneBytes 4 wdata)).respondOkay 0

end Sys2Proof.Machine
end

