-- ==== Sys2Proof/Machine/Flags.lean ====
section
/-! DEFINITION. The STATUS word (spec/10_state.md R23, R24). The flags themselves are written by the operations of
Machine/Ops.lean: `startMessage`, `feed`, `checkExpect`, `recordError`, `clearError` (R23, columns "set by" and
"cleared by"). -/

namespace Sys2Proof.Machine

open Sys2Proof

/-- `zext_32({ERR_CAUSE[2:0], 1'b0, ERR, MISMATCH, OK})` (R24): bits 3 and 31:7 are hardwired 0 (R23). -/
def State.statusWord (s : State) : Word :=
  (s.errCause ++ (0 : BitVec 1) ++ BitVec.ofBool s.err ++ BitVec.ofBool s.mismatch ++ BitVec.ofBool s.ok).setWidth 32

end Sys2Proof.Machine
end

