-- ==== Sys2Proof/Machine/ResultCheck.lean ====
section
/-! DEFINITION. The result and check family (spec/43_result_check.md). -/

namespace Sys2Proof.Machine

open Sys2Proof

/-- RESULT_RD (R120): no side effect. -/
def execResultRd (s : State) : Host.Outcome State Fault Refusal := s.respondOkay s.result

/-- EXPECT_WR (R121): okay for a mismatch too. -/
def execExpectWr (wdata : Word) (s : State) : Host.Outcome State Fault Refusal := (s.checkExpect wdata).respondOkay 0

/-- EXPECT_RD (R122): no side effect. -/
def execExpectRd (s : State) : Host.Outcome State Fault Refusal := s.respondOkay s.expect

/-- STATUS_RD (R123): no side effect; reading does not clear ERR. -/
def execStatusRd (s : State) : Host.Outcome State Fault Refusal := s.respondOkay s.statusWord

end Sys2Proof.Machine
end

