-- ==== Sys2Proof/Machine/Dispatch.lean ====
section
/-! DEFINITION. One arm per constructor of Instr. A read has no operand (spec/30_encoding.md R62), so its WDATA is not
passed on. -/

namespace Sys2Proof.Machine

open Sys2Proof

def exec (i : Instr) (s : State) : Host.Outcome State Fault Refusal :=
  match i with
  | .ctrlWr wdata => Sys2Proof.Machine.execCtrlWr wdata s
  | .dataWr8 wdata => Sys2Proof.Machine.execDataWr8 wdata s
  | .dataWr16 wdata => Sys2Proof.Machine.execDataWr16 wdata s
  | .dataWr32 wdata => Sys2Proof.Machine.execDataWr32 wdata s
  | .resultRd _ => Sys2Proof.Machine.execResultRd s
  | .expectWr wdata => Sys2Proof.Machine.execExpectWr wdata s
  | .expectRd _ => Sys2Proof.Machine.execExpectRd s
  | .statusRd _ => Sys2Proof.Machine.execStatusRd s
  | .busErr cause _ _ => Sys2Proof.Machine.execBusErr cause s

end Sys2Proof.Machine
end

