-- ==== Sys2Proof/Machine/Step.lean ====
section
/-! DEFINITION. One step of the block: it takes the host's oldest move (spec/20_memory.md R49). -/

namespace Sys2Proof.Machine

open Sys2Proof

/-- "The block applies rule R64 to the request, and then the rule of the operation it decodes to" (R41). A reset move
gives the reset state (R181); with nothing presented the block is idle. -/
def step (s : State) : Host.Outcome State Fault Refusal :=
  match s.takeMove with
  | none => .next s.idle
  | some (.request txn, s') => exec (decode txn) s'
  | some (.reset inFlight, s') => .next (s'.assertReset inFlight)

/-- `s` with the transaction of the number presented as the host's oldest move, so that the next step takes it. -/
def State.withFetchWord (s : State) (nbits w : Nat) : State :=
  s.withInputs (.request (tableTxn nbits w) :: s.inputs)

end Sys2Proof.Machine
end

