-- ==== Sys2Proof/Machine/Run.lean ====
section
/-! DEFINITION. Sequences of steps (spec/20_memory.md R49): k steps over the moves presented, and the host's own way of
issuing one transaction after another. -/

namespace Sys2Proof.Machine

open Sys2Proof

/-- Go on from a next state; a stop stays a stop. -/
def andThen {α β : Type} (o : Host.Outcome α Fault Refusal) (f : α → Host.Outcome β Fault Refusal) :
    Host.Outcome β Fault Refusal :=
  match o with
  | .next a => f a
  | .fault r => .fault r
  | .refused r => .refused r

/-- k steps. -/
def runSteps : Nat → State → Host.Outcome State Fault Refusal
  | 0, s => .next s
  | k + 1, s => andThen (step s) (runSteps k)

/-- The host issues one transaction now, and the block answers it (R8): one step. -/
def issue (txn : Txn) (s : State) : Host.Outcome State Fault Refusal := step (s.withInputs (.request txn :: s.inputs))

/-- The host issues transactions one after another (R49). -/
def issueAll : List Txn → State → Host.Outcome State Fault Refusal
  | [], s => .next s
  | txn :: txns, s => andThen (issue txn s) (issueAll txns)

/-- RDATA of the last answer; 0 where the last step gave none (DESIGN CHOICE, log entries 2 and 9). -/
def State.rdata (s : State) : Word :=
  match s.response with
  | some r => r.rdata
  | none => 0

end Sys2Proof.Machine
end

