-- ==== Sys2Proof/Machine/HostProc.lean ====
section
/-! DEFINITION. What the host does with the block: the pseudo-instructions (spec/30_encoding.md R67) and the procedures of
spec/44_host_procedures.md. Framing (length field, slicing) is the host's and out of scope (R4); it stands here only as
the procedures' input. -/

namespace Sys2Proof.Machine

open Sys2Proof

/-! ### Pseudo-instructions (R67) -/

def nopTxn : Txn := encode (.ctrlWr 0x00000000)
def initTxn : Txn := encode (.ctrlWr 0x00000001)
def clrErrTxn : Txn := encode (.ctrlWr 0x00000002)
def initClrErrTxn : Txn := encode (.ctrlWr 0x00000003)
def checkTxn (v : Word) : Txn := encode (.expectWr v)
def resultRdTxn : Txn := encode (.resultRd 0)
def statusRdTxn : Txn := encode (.statusRd 0)

/-- `FEED` (R67): a DATA_WR32 for each complete group of 4 bytes, then a DATA_WR16 if 2 or 3 remain, then a DATA_WR8 if 1
remains. -/
def feedTxns : List Byte → List Txn
  | b0 :: b1 :: b2 :: b3 :: rest => encode (.dataWr32 (wordOfBytes b0 b1 b2 b3)) :: feedTxns rest
  | [b0, b1, b2] => [encode (.dataWr16 (wordOfBytes 0 0 b0 b1)), encode (.dataWr8 (wordOfBytes 0 0 0 b2))]
  | [b0, b1] => [encode (.dataWr16 (wordOfBytes 0 0 b0 b1))]
  | [b0] => [encode (.dataWr8 (wordOfBytes 0 0 0 b0))]
  | [] => []

/-! ### Restart (R142, R144) -/

/-- "the computation is void (a bus error occurred); restart": an attempt that is void is run again from its first
transaction. Before each restart the host issues transactions of its own choice, none or a CLR_ERR for example: the lists
of `restarts`, in order. The result is void only where every attempt was and the host restarts no more (log entry 7). -/
def restarting {α : Type} (isVoid : α → Bool) (attempt : State → Host.Outcome (α × State) Fault Refusal) :
    List (List Txn) → State → Host.Outcome (α × State) Fault Refusal
  | [], s => attempt s
  | txns :: restarts, s => andThen (attempt s) fun (result, s') =>
    if isVoid result then andThen (issueAll txns s') (restarting isVoid attempt restarts) else .next (result, s')

/-! ### Generator (R141 to R143) -/

/-- What one pass of the generator gives: the CRC, or that the computation is void (a bus error occurred). -/
inductive Generated where
  | crc (value : Word)
  | void
  deriving DecidableEq, Repr

/-- A void computation is restarted. -/
def Generated.isVoid : Generated → Bool
  | .crc _ => false
  | .void => true

/-- The message of a chunk is exactly type ‖ payload (R141). -/
def chunkMessage (ty : Vector Byte 4) (payload : List Byte) : List Byte := ty.toList ++ payload

/-- One pass of `generate` (R142), up to its "restart". -/
def generateAttempt (ty : Vector Byte 4) (payload : List Byte) (s : State) : Host.Outcome (Generated × State) Fault Refusal :=
  andThen (issueAll (initTxn :: feedTxns (chunkMessage ty payload)) s) fun fed =>
  andThen (issue resultRdTxn fed) fun read =>
  andThen (issue statusRdTxn read) fun done =>
  .next (if done.rdata.getLsbD 2 then .void else .crc read.rdata, done)

/-- `generate` (R142), with the host's restarts. -/
def generate (restarts : List (List Txn)) (ty : Vector Byte 4) (payload : List Byte) :
    State → Host.Outcome (Generated × State) Fault Refusal :=
  restarting Generated.isVoid (generateAttempt ty payload) restarts

/-- The chunk on the wire (R143): big-endian length ‖ type ‖ payload ‖ big-endian CRC. -/
def chunkWire (ty : Vector Byte 4) (payload : List Byte) (crc : Word) : List Byte :=
  laneBytes 4 (BitVec.ofNat 32 payload.length) ++ ty.toList ++ payload ++ laneBytes 4 crc

/-! ### Validator (R144, R145) -/

/-- The verdict of one pass of the validator. `tooShort` is the host's framing error, given before the block is used
(R144); `void` says that a bus error occurred. -/
inductive Verdict where
  | ok
  | crcMismatch
  | void
  | tooShort
  deriving DecidableEq, Repr

/-- A void check is restarted. -/
def Verdict.isVoid : Verdict → Bool
  | .ok => false
  | .crcMismatch => false
  | .void => true
  | .tooShort => false

/-- c[4..L-4]: type and payload, contiguous (R144). -/
def spanMessage (c : List Byte) : List Byte := (c.take (c.length - 4)).drop 4

/-- The stored CRC, the last four bytes read big-endian (R144). -/
def storedCrc (c : List Byte) : Word :=
  let byteFromEnd (k : Nat) : Word := (c.getD (c.length - k) 0).setWidth 32
  (byteFromEnd 4 <<< 24) ||| (byteFromEnd 3 <<< 16) ||| (byteFromEnd 2 <<< 8) ||| byteFromEnd 1

/-- One pass of `validate` (R144) on one chunk's span, up to its "restart". -/
def validateAttempt (c : List Byte) (s : State) : Host.Outcome (Verdict × State) Fault Refusal :=
  if c.length < 12 then .next (.tooShort, s)
  else
    andThen (issueAll (initTxn :: feedTxns (spanMessage c)) s) fun fed =>
    andThen (issue (checkTxn (storedCrc c)) fed) fun checked =>
    andThen (issue statusRdTxn checked) fun done =>
    .next (if done.rdata.getLsbD 2 then .void else if done.rdata.getLsbD 1 then .crcMismatch else .ok, done)

/-- `validate` (R144), with the host's restarts. -/
def validate (restarts : List (List Txn)) (c : List Byte) : State → Host.Outcome (Verdict × State) Fault Refusal :=
  restarting Verdict.isVoid (validateAttempt c) restarts

/-- One pass of the software compare (R145): RESULT is read and compared by the host; EXPECT, OK and MISMATCH are not
written by a compare. R145 leaves open how the host then checks for a bus error (R140: STATUS.ERR = 0, or every response
okay): that it reads STATUS after RESULT, so that an error from before the message makes the check void too, is the
model's choice (DESIGN CHOICE, log entry 7). -/
def validateBySoftwareAttempt (c : List Byte) (s : State) : Host.Outcome (Verdict × State) Fault Refusal :=
  if c.length < 12 then .next (.tooShort, s)
  else
    andThen (issueAll (initTxn :: feedTxns (spanMessage c)) s) fun fed =>
    andThen (issue resultRdTxn fed) fun read =>
    andThen (issue statusRdTxn read) fun done =>
    .next (if done.rdata.getLsbD 2 then .void else if read.rdata ≠ storedCrc c then .crcMismatch else .ok, done)

/-- The software compare (R145), with the host's restarts. -/
def validateBySoftware (restarts : List (List Txn)) (c : List Byte) :
    State → Host.Outcome (Verdict × State) Fault Refusal :=
  restarting Verdict.isVoid (validateBySoftwareAttempt c) restarts

/-- The chunks of a container, each by its own run of the validator with its restarts; the first failure aborts the parse
(R149). -/
def validateAll (restarts : List (List Txn)) : List (List Byte) → State → Host.Outcome (Verdict × State) Fault Refusal
  | [], s => .next (.ok, s)
  | c :: rest, s => andThen (validate restarts c s) fun (verdict, s') =>
    if verdict = .ok then validateAll restarts rest s' else .next (verdict, s')

/-! ### Packing (R146) -/

/-- A 32-bit load of four consecutive bytes on a big-endian host. -/
def loadBigEndian (b0 b1 b2 b3 : Byte) : Word := wordOfBytes b0 b1 b2 b3

/-- The same load on a little-endian host. -/
def loadLittleEndian (b0 b1 b2 b3 : Byte) : Word := wordOfBytes b3 b2 b1 b0

end Sys2Proof.Machine
end

