-- ==== Sys2Proof/Machine/Asm.lean ====
section
/-! DEFINITION. The assembler syntax of spec/30_encoding.md R66 and the pseudo-instructions of R67: a line of characters to
the transactions it stands for, or none where the line is not of the syntax. Lexical points the spec does not state
(blanks, letter case) are log entry 10. -/

namespace Sys2Proof.Machine

open Sys2Proof

/-! ### Tokens -/

/-- A token of a line: a word, a quoted character, a quoted text, or a comma. -/
inductive Token where
  | word (cs : List Char)
  | quoted (c : Char)
  | text (cs : List Char)
  | comma
  deriving DecidableEq, Repr

/-- Where the scan of a line stands. -/
inductive LexMode where
  | between
  | inWord (acc : List Char)
  | inText (acc : List Char)
  | quoteOpen
  | quoteClose (c : Char)
  deriving DecidableEq, Repr

def isBlank (c : Char) : Bool := c == ' ' || c == '\t' || c == '\r'
def isSemicolon (c : Char) : Bool := c == ';'
def isComma (c : Char) : Bool := c == ','
def isDoubleQuote (c : Char) : Bool := c.toNat == 34
def isSingleQuote (c : Char) : Bool := c.toNat == 39

/-- The tokens of a line; a semicolon outside quotes starts a comment (R66), an open quote at the end is an error. -/
def lexLine : LexMode → List Char → Option (List Token)
  | .between, [] => some []
  | .inWord acc, [] => some [.word acc.reverse]
  | .inText _, [] => none
  | .quoteOpen, [] => none
  | .quoteClose _, [] => none
  | .between, c :: cs =>
    if isBlank c then lexLine .between cs
    else if isSemicolon c then some []
    else if isComma c then (lexLine .between cs).map (.comma :: ·)
    else if isDoubleQuote c then lexLine (.inText []) cs
    else if isSingleQuote c then lexLine .quoteOpen cs
    else lexLine (.inWord [c]) cs
  | .inWord acc, c :: cs =>
    if isBlank c then (lexLine .between cs).map (.word acc.reverse :: ·)
    else if isSemicolon c then some [.word acc.reverse]
    else if isComma c then (lexLine .between cs).map (.word acc.reverse :: .comma :: ·)
    else lexLine (.inWord (c :: acc)) cs
  | .inText acc, c :: cs =>
    if isDoubleQuote c then (lexLine .between cs).map (.text acc.reverse :: ·) else lexLine (.inText (c :: acc)) cs
  | .quoteOpen, c :: cs => lexLine (.quoteClose c) cs
  | .quoteClose q, c :: cs => if isSingleQuote c then (lexLine .between cs).map (.quoted q :: ·) else none

/-! ### Operands -/

/-- The value of a digit, 0 to 15. -/
def digitValue (c : Char) : Option Nat :=
  let n := c.toNat
  if 48 ≤ n ∧ n ≤ 57 then some (n - 48)
  else if 65 ≤ n ∧ n ≤ 70 then some (n - 55)
  else if 97 ≤ n ∧ n ≤ 102 then some (n - 87)
  else none

/-- The number of a digit string in a base, most significant digit first. -/
def digitsValue (base : Nat) : Nat → List Char → Option Nat
  | acc, [] => some acc
  | acc, c :: cs =>
    match digitValue c with
    | some d => if d < base then digitsValue base (base * acc + d) cs else none
    | none => none

/-- A number in hexadecimal (`0x...`) or in decimal (R66). -/
def numberValue : List Char → Option Nat
  | [] => none
  | '0' :: 'x' :: [] => none
  | '0' :: 'x' :: d :: ds => digitsValue 16 0 (d :: ds)
  | d :: ds => digitsValue 10 0 (d :: ds)

/-- "The operand must fit": a number below 2^bits. -/
def fits (bits : Nat) (n : Option Nat) : Option Word :=
  match n with
  | some v => if v < 2 ^ bits then some (BitVec.ofNat 32 v) else none
  | none => none

/-- The byte of a character, where it has one. -/
def charByte (c : Char) : Option Byte := if c.toNat < 256 then some (BitVec.ofNat 8 c.toNat) else none

/-- A byte operand: a number that fits in 8 bits, or a quoted character. R66 gives the quoted character to DATA_WR8; in a
FEED list it is the model's choice (DESIGN CHOICE, log entry 10). -/
def byteOperand : Token → Option Byte
  | .word cs => (fits 8 (numberValue cs)).map (·.setWidth 8)
  | .quoted c => charByte c
  | .text _ => none
  | .comma => none

/-- A number operand of a given width. -/
def wordOperand (bits : Nat) : Token → Option Word
  | .word cs => fits bits (numberValue cs)
  | .quoted _ => none
  | .text _ => none
  | .comma => none

/-- The bytes of `FEED b0, b1, ..., bk-1`. -/
def byteList : List Token → Option (List Byte)
  | [] => none
  | [t] => (byteOperand t).map (fun b => [b])
  | t :: .comma :: rest =>
    match byteOperand t, byteList rest with
    | some b, some bs => some (b :: bs)
    | _, _ => none
  | _ :: .word _ :: _ => none
  | _ :: .quoted _ :: _ => none
  | _ :: .text _ :: _ => none

/-- The bytes of a text. -/
def textBytes : List Char → Option (List Byte)
  | [] => some []
  | c :: cs =>
    match charByte c, textBytes cs with
    | some b, some bs => some (b :: bs)
    | _, _ => none

/-! ### Lines -/

/-- The two binary digits of `SZ=bb`. -/
def sizeField (cs : List Char) : Option (BitVec 2) :=
  match cs with
  | ['S', 'Z', '=', '0', '0'] => some 0b00
  | ['S', 'Z', '=', '0', '1'] => some 0b01
  | ['S', 'Z', '=', '1', '0'] => some 0b10
  | ['S', 'Z', '=', '1', '1'] => some 0b11
  | _ => none

/-- The offset of `OFF=<0x..>` (R66), in hexadecimal; that it may be in decimal too, as in `OFF=20`, is the model's choice
(DESIGN CHOICE, log entry 10). -/
def offsetField (cs : List Char) : Option (BitVec 5) :=
  match cs with
  | 'O' :: 'F' :: 'F' :: '=' :: ds => (fits 5 (numberValue ds)).map (·.setWidth 5)
  | _ => none

/-- `BUS r|w SZ=<bb> OFF=<0x..> [wdata]` (R66), after the word BUS. A legal transaction may be written so too, and WDATA
left out is 0 (DESIGN CHOICE, log entry 10). -/
def busLine : List Token → Option (List Txn)
  | .word dir :: .word sz :: .word off :: rest =>
    let write := if dir = ['r'] then some false else if dir = ['w'] then some true else none
    let wdata := match rest with
      | [] => some 0
      | [t] => wordOperand 32 t
      | _ :: _ :: _ => none
    match write, sizeField sz, offsetField off, wdata with
    | some we, some code, some offset, some v => some [⟨packDesc we code offset, v⟩]
    | _, _, _, _ => none
  | _ => none

/-- A write of one number operand of a given width. -/
def writeLine (bits : Nat) (instr : Word → Instr) : List Token → Option (List Txn)
  | [t] => (wordOperand bits t).map (fun v => [encode (instr v)])
  | _ => none

/-- A line with no operand. -/
def bareLine (txn : Txn) : List Token → Option (List Txn)
  | [] => some [txn]
  | _ :: _ => none

/-- The operand of FEED: one text, or bytes with commas between. -/
def feedLine : List Token → Option (List Txn)
  | [.text cs] => (textBytes cs).map feedTxns
  | ts => (byteList ts).map feedTxns

/-- The mnemonics of R63, the pseudo-instructions of R67, and BUS. -/
def lineOf (mnemonic : List Char) (ops : List Token) : Option (List Txn) :=
  if mnemonic = ['C', 'T', 'R', 'L', '_', 'W', 'R'] then writeLine 32 .ctrlWr ops
  else if mnemonic = ['D', 'A', 'T', 'A', '_', 'W', 'R', '8'] then
    match ops with
    | [t] => (byteOperand t).map (fun b => [encode (.dataWr8 (b.setWidth 32))])
    | _ => none
  else if mnemonic = ['D', 'A', 'T', 'A', '_', 'W', 'R', '1', '6'] then writeLine 16 .dataWr16 ops
  else if mnemonic = ['D', 'A', 'T', 'A', '_', 'W', 'R', '3', '2'] then writeLine 32 .dataWr32 ops
  else if mnemonic = ['R', 'E', 'S', 'U', 'L', 'T', '_', 'R', 'D'] then bareLine resultRdTxn ops
  else if mnemonic = ['E', 'X', 'P', 'E', 'C', 'T', '_', 'W', 'R'] then writeLine 32 .expectWr ops
  else if mnemonic = ['E', 'X', 'P', 'E', 'C', 'T', '_', 'R', 'D'] then bareLine (encode (.expectRd 0)) ops
  else if mnemonic = ['S', 'T', 'A', 'T', 'U', 'S', '_', 'R', 'D'] then bareLine statusRdTxn ops
  else if mnemonic = ['N', 'O', 'P'] then bareLine nopTxn ops
  else if mnemonic = ['I', 'N', 'I', 'T'] then bareLine initTxn ops
  else if mnemonic = ['C', 'L', 'R', 'E', 'R', 'R'] then bareLine clrErrTxn ops
  else if mnemonic = ['I', 'N', 'I', 'T', '_', 'C', 'L', 'R', 'E', 'R', 'R'] then bareLine initClrErrTxn ops
  else if mnemonic = ['C', 'H', 'E', 'C', 'K'] then writeLine 32 .expectWr ops
  else if mnemonic = ['F', 'E', 'E', 'D'] then feedLine ops
  else if mnemonic = ['B', 'U', 'S'] then busLine ops
  else none

/-- The transactions of a line: one for a transaction, R67's expansion for a pseudo-instruction, none for a line that is
empty or only a comment. -/
def assembleLine (line : List Char) : Option (List Txn) :=
  match lexLine .between line with
  | some [] => some []
  | some (.word mnemonic :: ops) => lineOf mnemonic ops
  | some (.quoted _ :: _) => none
  | some (.text _ :: _) => none
  | some (.comma :: _) => none
  | none => none

/-- The transactions of a program, line after line. -/
def assemble : List (List Char) → Option (List Txn)
  | [] => some []
  | line :: lines =>
    match assembleLine line, assemble lines with
    | some txns, some rest => some (txns ++ rest)
    | _, _ => none

/-! ### Text of a transaction -/

/-- A hexadecimal digit, capital letters. -/
def hexDigit (d : BitVec 4) : Char := if d.toNat < 10 then Char.ofNat (48 + d.toNat) else Char.ofNat (55 + d.toNat)

/-- The n low hexadecimal digits of a word, the highest first. -/
def hexDigits : Nat → Word → List Char
  | 0, _ => []
  | n + 1, w => hexDigit (w.extractLsb' (4 * n) 4) :: hexDigits n w

/-- A binary digit. -/
def bitDigit (b : Bool) : Char := if b then '1' else '0'

/-- Any transaction as R66's BUS line, WDATA written out. -/
def busText (t : Txn) : List Char :=
  ['B', 'U', 'S', ' ', if t.isWrite then 'w' else 'r', ' ', 'S', 'Z', '='] ++
  [bitDigit (t.sizeCode.getLsbD 1), bitDigit (t.sizeCode.getLsbD 0), ' ', 'O', 'F', 'F', '=', '0', 'x'] ++
  hexDigits 2 (t.offset.setWidth 32) ++ [' ', '0', 'x'] ++ hexDigits 8 t.wdata

end Sys2Proof.Machine
end

