-- ==== Sys2Proof/Config.lean ====
section
/-! DEFINITION. What the spec leaves OPEN (spec/00_scope.md R5): the window's base and the wait states. Neither
constant has a body, so no proof can see a value of one; the transaction model reads neither (R8). -/

namespace Sys2Proof

/-- Which 32-byte window of the host's address space the platform gives the block (R40, I16). -/
opaque Config.windowIndex : Nat

/-- `CRC_BASE`, OPEN: "a platform parameter, a multiple of 32" (R5, R40). -/
def Config.crcBase : Nat := 32 * Config.windowIndex

/-- `LATENCY`, OPEN: the wait states of a transaction accepted after n others, "any finite number of wait states, which
may differ per transaction. A DATA_WR32 may take longer than a DATA_WR8" (R186, I17). Only the informative port of
Machine/Port.lean reads it. -/
opaque Config.latency : Nat → Txn → Nat

end Sys2Proof
end

