-- ==== Sys2Proof/Machine/Bus.lean ====
section
/-! DEFINITION. The host's side of the port: the platform's routing of addresses to the window (spec/20_memory.md R40)
and the transaction primitives BusWrite and BusRead (R41). -/

namespace Sys2Proof.Machine

open Sys2Proof

/-- OFF = address − CRC_BASE for an address of the 32-byte window; other addresses do not reach the block (R40, D4). -/
def windowOffset (address : Nat) : Option (BitVec 5) :=
  if Config.crcBase ≤ address ∧ address < Config.crcBase + 32 then some (BitVec.ofNat 5 (address - Config.crcBase)) else none

/-- The sizes a BusWrite or BusRead names (R41): 1, 2 or 4 bytes. SZ = 11 has none. -/
inductive AccessSize where
  | one | two | four
  deriving DecidableEq, Repr

/-- Number of bytes. -/
def sizeBytes : AccessSize → Nat
  | .one => 1
  | .two => 2
  | .four => 4

/-- The SZ code (R61). -/
def sizeCodeOf : AccessSize → BitVec 2
  | .one => 0b00
  | .two => 0b01
  | .four => 0b10

/-- `BusWrite(off, n, v)` (R41). -/
def busWrite (offset : BitVec 5) (n : AccessSize) (v : Word) : Txn := ⟨packDesc true (sizeCodeOf n) offset, v⟩

/-- `BusRead(off, n)` (R41): WDATA is ignored; the primitive puts 0 there. -/
def busRead (offset : BitVec 5) (n : AccessSize) : Txn := ⟨packDesc false (sizeCodeOf n) offset, 0⟩

end Sys2Proof.Machine
end

