-- ==== Sys2Proof/Machine/Port.lean ====
section
/-! DEFINITION. The signal-level port of spec/20_memory.md R42, which the spec calls informative: one rising edge of `clk`.
The transaction model does not depend on it; it shows what wait states and a reset in flight look like (R181, R186). The
conventions the spec leaves open here are log entry 9. -/

namespace Sys2Proof.Machine

open Sys2Proof

/-- The input pins at an edge (R42), `clk` apart. -/
structure Pins where
  rst      : Bool
  reqValid : Bool
  reqWe    : Bool
  reqSz    : BitVec 2
  reqOff   : BitVec 5
  reqWdata : Word
  deriving DecidableEq, Repr

/-- The block behind its pins: its state, the transaction accepted and not yet answered with the wait states still to come,
and how many transactions were accepted so far. -/
structure PortState where
  block    : State
  inFlight : Option (Txn × Nat)
  accepted : Nat
  deriving DecidableEq, Repr

/-- The request on the pins. -/
def pinsTxn (p : Pins) : Txn := ⟨packDesc p.reqWe p.reqSz p.reqOff, p.reqWdata⟩

/-- `req_ready`: 0 from acceptance until the response (R42). The spec gives no value outside that: that it is 1 at every
other time, the cycle of the response included, and 1 while `rst` = 1, from the first reset edge on, is the model's choice
(DESIGN CHOICE, log entry 9). -/
def reqReady (q : PortState) : Bool := q.inFlight.isNone

/-- `rsp_valid`: 1 for the one cycle after the edge that gives the response (R42). -/
def rspValid (q : PortState) : Bool := q.block.response.isSome

/-- `rsp_err`. The spec gives no value while `rsp_valid` = 0; 0 is the model's choice (DESIGN CHOICE, log entry 9). -/
def rspErr (q : PortState) : Bool := q.block.response.any Response.isError

/-- `rsp_rdata`. The spec gives no value while `rsp_valid` = 0; 0 is the model's choice (DESIGN CHOICE, log entry 9). -/
def rspRdata (q : PortState) : Word := q.block.rdata

/-- One rising edge of `clk`. `rst` is sampled first (R181); a transaction in flight is answered when its wait states are
over; a request is accepted where `req_valid & req_ready & !rst` (R42). -/
def clockEdge (p : Pins) (q : PortState) : Host.Outcome PortState Fault Refusal :=
  if p.rst then .next { q with block := q.block.assertReset (q.inFlight.map Prod.fst), inFlight := none }
  else
    match q.inFlight with
    | some (txn, 0) => andThen (issue txn q.block) fun s => .next { q with block := s, inFlight := none }
    | some (txn, k + 1) => .next { q with block := q.block.idle, inFlight := some (txn, k) }
    | none =>
      if p.reqValid then
        .next { block := q.block.idle
                inFlight := some (pinsTxn p, Config.latency q.accepted (pinsTxn p))
                accepted := q.accepted + 1 }
      else .next { q with block := q.block.idle }

/-- Edges with the pins given for each. -/
def clockEdges : List Pins → PortState → Host.Outcome PortState Fault Refusal
  | [], q => .next q
  | p :: ps, q => andThen (clockEdge p q) (clockEdges ps)

end Sys2Proof.Machine
end

