-- ==== Sys2Proof/Machine/Message.lean ====
section
/-! DEFINITION. The message: "the byte sequence fed to the block since the last INIT or reset" (spec/00_scope.md R9).
The block does not store it; statements speak of it. -/

namespace Sys2Proof.Machine

open Sys2Proof

/-- The bytes an instruction feeds, in the order of R110 to R112; only a DATA write feeds any. -/
def fedBytes : Instr → List Byte
  | .dataWr8 wdata => laneBytes 1 wdata
  | .dataWr16 wdata => laneBytes 2 wdata
  | .dataWr32 wdata => laneBytes 4 wdata
  | .ctrlWr _ => []
  | .resultRd _ => []
  | .expectWr _ => []
  | .expectRd _ => []
  | .statusRd _ => []
  | .busErr _ _ _ => []

/-- A DATA write that succeeds: the decoder accepts it. -/
def isDataWrite : Instr → Bool
  | .dataWr8 _ => true
  | .dataWr16 _ => true
  | .dataWr32 _ => true
  | .ctrlWr _ => false
  | .resultRd _ => false
  | .expectWr _ => false
  | .expectRd _ => false
  | .statusRd _ => false
  | .busErr _ _ _ => false

/-- A CTRL_WR with INIT = 1 starts a message (R100, R101). -/
def startsMessage : Instr → Bool
  | .ctrlWr wdata => ctrlInit wdata
  | .dataWr8 _ => false
  | .dataWr16 _ => false
  | .dataWr32 _ => false
  | .resultRd _ => false
  | .expectWr _ => false
  | .expectRd _ => false
  | .statusRd _ => false
  | .busErr _ _ _ => false

/-- The message after one more move of the host. -/
def messageStep (message : List Byte) : HostMove → List Byte
  | .request txn => if startsMessage (decode txn) then [] else message ++ fedBytes (decode txn)
  | .reset _ => []

/-- The message after a sequence of moves. -/
def messageAfter (message : List Byte) (moves : List HostMove) : List Byte := moves.foldl messageStep message

end Sys2Proof.Machine
end

