-- ==== Sys2Proof/Safety.lean ====
section
/-! DEFINITION. What claims about runs are stated in: the invariants of spec/10_state.md R25, the reachable states, and
that the accumulator is that of the current message. -/

namespace Sys2Proof.Machine

open Sys2Proof

/-- R25 (a) to (d). "It must not assume them of a state that was not reached from reset." -/
abbrev State.Inv (s : State) : Prop :=
  ¬(s.ok = true ∧ s.mismatch = true) ∧
  (s.errCause = 0 ↔ s.err = false) ∧
  s.errCause.toNat ≤ 4 ∧
  s.statusWord &&& 0xFFFFFF88 = 0

/-- The states a run can reach: from reset, the host may present moves at any time, and the block steps (R140, R182). -/
inductive Reachable : State → Prop where
  | reset : Reachable State.reset
  | present (s : State) (moves : List HostMove) : Reachable s → Reachable (s.withInputs (s.inputs ++ moves))
  | step (s s' : State) : Reachable s → step s = .next s' → Reachable s'

/-- ACC is what the message so far gives from the initial value (R86, R124). -/
abbrev State.Holds (message : List Byte) (s : State) : Prop := s.acc = absorb initValue message

end Sys2Proof.Machine
end

