-- ==== Sys2Proof/Certificates/Slice0/Obligations.lean ====
section
/-! DEFINITION. The statements for the provers. Each docstring names the rule of spec/ it follows. Where the spec marks a
sentence as its own inference ([derived: …]) or as general knowledge, the docstring says so and the statement's basis is
'derived'. An equation `exec i s = .next { s with … }` is also the instruction's frame: every register it does not name is
as before. The block has no memory (R40), so no statement speaks of memory bytes. -/

open Sys2Proof Sys2Proof.Machine

/-! ### The step -/

/-- R41's last sentence: when the host's oldest move is a transaction, the step is `exec` of what it decodes to, on the
state with that move taken. -/
def Obligations.StepRunsDecodedTransaction : Prop :=
  ∀ (s : State) (txn : Txn) (rest : List HostMove), s.inputs = .request txn :: rest →
    step s = exec (decode txn) { s with inputs := rest }

/-- R181 (reset entry) at the transaction level and at the pins: every register takes its reset value, no request is
accepted, and a transaction in flight gets no response and has no effect. That the host's later moves stay presented is
log entry 1. -/
def Obligations.ResetDropsTransactionInFlight : Prop :=
  (∀ (s : State) (inFlight : Option Txn) (rest : List HostMove), s.inputs = .reset inFlight :: rest →
    step s = .next { acc := 0xFFFFFFFF, expect := 0, ok := false, mismatch := false, err := false, errCause := 0,
                     inputs := rest, response := none }) ∧
  (∀ (p : Pins) (q : PortState), p.rst = true →
    clockEdge p q = .next
      { block := { acc := 0xFFFFFFFF, expect := 0, ok := false, mismatch := false, err := false, errCause := 0,
                   inputs := q.block.inputs, response := none }
        inFlight := none, accepted := q.accepted })

/-- R173 and the model's own convention (log entry 3): a step with nothing presented keeps every register and answers
nothing. -/
def Obligations.IdleStepKeepsEveryRegister : Prop :=
  ∀ s : State, s.inputs = [] → step s = .next { s with response := none }

/-- R8: "The block never faults, hangs or refuses", over any number of moves: k moves presented are taken in k steps. -/
def Obligations.EveryMoveIsTaken : Prop :=
  ∀ (moves rest : List HostMove) (s : State),
    ∃ t, runSteps moves.length { s with inputs := moves ++ rest } = .next t ∧ t.inputs = rest

/-- R41: every transaction is answered in its own step, by okay or by error, error exactly where the decoder has a cause;
a write that succeeds answers okay(0). -/
def Obligations.EveryTransactionIsAnswered : Prop :=
  ∀ (s : State) (txn : Txn), ∃ t, issue txn s = .next t ∧ t.inputs = s.inputs ∧
    (t.response = some .error ↔ causeOf txn ≠ none) ∧
    (causeOf txn = none → txn.isWrite = true → t.response = some (.okay 0)) ∧
    t.response ≠ none

/-- R49: a queue of transactions taken step by step is the transactions issued one after another, and a sequence is its
parts in order. -/
def Obligations.SequenceIsStepAfterStep : Prop :=
  (∀ (txns : List Txn) (rest : List HostMove) (s : State),
    runSteps txns.length { s with inputs := txns.map HostMove.request ++ rest } = issueAll txns { s with inputs := rest }) ∧
  (∀ (txns txns' : List Txn) (s : State), issueAll (txns ++ txns') s = andThen (issueAll txns s) (issueAll txns'))

/-! ### Decoding -/

/-- R60: the fields of the descriptor, bit by bit, and that a read's WDATA is ignored. -/
def Obligations.DescriptorFields : Prop :=
  (∀ (we : Bool) (sz : BitVec 2) (off : BitVec 5) (wdata : Word),
    (packDesc we sz off).getLsbD 7 = we ∧ (packDesc we sz off).extractLsb' 5 2 = sz ∧
    (packDesc we sz off).extractLsb' 0 5 = off ∧
    Txn.isWrite ⟨packDesc we sz off, wdata⟩ = we ∧ Txn.sizeCode ⟨packDesc we sz off, wdata⟩ = sz ∧
    Txn.offset ⟨packDesc we sz off, wdata⟩ = off) ∧
  (∀ txn : Txn, packDesc txn.isWrite txn.sizeCode txn.offset = txn.desc) ∧
  (∀ (desc : Byte) (wdata wdata' : Word) (s : State), desc.getLsbD 7 = false →
    issue ⟨desc, wdata⟩ s = issue ⟨desc, wdata'⟩ s)

/-- R61: the size codes, and that SZ = 11 is always a bus error, of cause SIZE unless an earlier cause applies. -/
def Obligations.SizeCodes : Prop :=
  accessBytes 0b00 = some 1 ∧ accessBytes 0b01 = some 2 ∧ accessBytes 0b10 = some 4 ∧ accessBytes 0b11 = none ∧
  (∀ txn : Txn, txn.sizeCode = 0b11 →
    decode txn =
      if txn.offset.toNat ∉ [0x00, 0x04, 0x08, 0x0C, 0x10] then .busErr .unmapped txn.desc txn.wdata
      else if (txn.isWrite = true ∧ txn.offset.toNat ∈ [0x08, 0x10]) ∨ (txn.isWrite = false ∧ txn.offset.toNat ∈ [0x00, 0x04])
        then .busErr .direction txn.desc txn.wdata
      else .busErr .size txn.desc txn.wdata)

/-- R62: what of WDATA each write uses, in which order, and that nothing else of it is used or checked. -/
def Obligations.OperandAssembly : Prop :=
  (∀ w : Word,
    fedBytes (.dataWr8 w) = [w.extractLsb' 0 8] ∧
    fedBytes (.dataWr16 w) = [w.extractLsb' 8 8, w.extractLsb' 0 8] ∧
    fedBytes (.dataWr32 w) = [w.extractLsb' 24 8, w.extractLsb' 16 8, w.extractLsb' 8 8, w.extractLsb' 0 8]) ∧
  (∀ (w : Word) (s : State),
    exec (.dataWr8 w) s = exec (.dataWr8 (w &&& 0x000000FF)) s ∧
    exec (.dataWr16 w) s = exec (.dataWr16 (w &&& 0x0000FFFF)) s) ∧
  (∀ w : Word, decode ⟨0x84, w⟩ = .dataWr8 w ∧ decode ⟨0xA4, w⟩ = .dataWr16 w) ∧
  (∀ w : Word, decode ⟨0xC0, w⟩ = if w.toNat < 4 then .ctrlWr w else .busErr .rsvdBits 0xC0 w) ∧
  (∀ (w : Word) (s : State), ∃ t, exec (.expectWr w) s = .next t ∧ t.expect = w) ∧
  (∀ (w w' : Word) (s : State),
    exec (.resultRd w) s = exec (.resultRd w') s ∧ exec (.expectRd w) s = exec (.expectRd w') s ∧
    exec (.statusRd w) s = exec (.statusRd w') s) ∧
  (∀ (w : Word) (s : State) (i : Instr), i ∈ [.resultRd w, .expectRd w, .statusRd w] →
    ∃ t rdata, exec i s = .next t ∧ t.response = some (.okay rdata))

/-- R63: the eight legal descriptors, each with its fields and its row, and that everything else is a bus error. -/
def Obligations.EightLegalDescriptors : Prop :=
  (∀ w : Word,
    (w.extractLsb' 2 30 = 0 → decode ⟨0xC0, w⟩ = .ctrlWr w) ∧
    decode ⟨0x84, w⟩ = .dataWr8 w ∧ decode ⟨0xA4, w⟩ = .dataWr16 w ∧ decode ⟨0xC4, w⟩ = .dataWr32 w ∧
    decode ⟨0x48, w⟩ = .resultRd w ∧ decode ⟨0xCC, w⟩ = .expectWr w ∧ decode ⟨0x4C, w⟩ = .expectRd w ∧
    decode ⟨0x50, w⟩ = .statusRd w) ∧
  (packDesc true 0b10 0x00 = 0xC0 ∧ packDesc true 0b00 0x04 = 0x84 ∧ packDesc true 0b01 0x04 = 0xA4 ∧
    packDesc true 0b10 0x04 = 0xC4 ∧ packDesc false 0b10 0x08 = 0x48 ∧ packDesc true 0b10 0x0C = 0xCC ∧
    packDesc false 0b10 0x0C = 0x4C ∧ packDesc false 0b10 0x10 = 0x50) ∧
  (∀ w : Word, w.extractLsb' 2 30 ≠ 0 → ∃ cause, decode ⟨0xC0, w⟩ = .busErr cause 0xC0 w) ∧
  (∀ (desc : Byte) (w : Word), desc ∉ [0xC0, 0x84, 0xA4, 0xC4, 0x48, 0xCC, 0x4C, 0x50] →
    ∃ cause, decode ⟨desc, w⟩ = .busErr cause desc w)

/-- R45: an access names a register's offset exactly, or it is UNMAPPED; a legal access is aligned at its size. -/
def Obligations.AccessNamesRegisterExactly : Prop :=
  (∀ txn : Txn, txn.offset.toNat ∉ [0x00, 0x04, 0x08, 0x0C, 0x10] ↔ decode txn = .busErr .unmapped txn.desc txn.wdata) ∧
  (∀ txn : Txn, causeOf txn = none →
    txn.offset.toNat % 4 = 0 ∧ ∃ n, accessBytes txn.sizeCode = some n ∧ txn.offset.toNat % n = 0)

/-- R163: within a transaction the lowest cause wins, in the order UNMAPPED, DIRECTION, SIZE, RSVD_BITS; across transactions
the first error is kept; a bus error performs no compare. -/
def Obligations.BusErrorPriority : Prop :=
  (∀ txn : Txn, causeOf txn =
    if txn.offset.toNat ∉ [0x00, 0x04, 0x08, 0x0C, 0x10] then some .unmapped
    else if (txn.desc.getLsbD 7 = true ∧ txn.offset.toNat ∈ [0x08, 0x10]) ∨
        (txn.desc.getLsbD 7 = false ∧ txn.offset.toNat ∈ [0x00, 0x04]) then some .direction
    else if txn.sizeCode = 0b11 ∨ (txn.sizeCode ≠ 0b10 ∧ txn.offset.toNat ≠ 0x04) then some .size
    else if txn.offset.toNat = 0x00 ∧ txn.wdata.extractLsb' 2 30 ≠ 0 then some .rsvdBits
    else none) ∧
  (causeCode .unmapped = 1 ∧ causeCode .direction = 2 ∧ causeCode .size = 3 ∧ causeCode .rsvdBits = 4) ∧
  (∀ (cause : Cause) (desc : Byte) (w : Word) (s t : State), exec (.busErr cause desc w) s = .next t →
    t.ok = s.ok ∧ t.mismatch = s.mismatch ∧ (s.err = true → t.errCause = s.errCause) ∧
    (s.err = false → t.errCause = causeCode cause))

/-- R162's descriptor lists and R64's counts, both of which the spec derives by enumeration: the decoder has exactly the
cause the lists give; 216 UNMAPPED, 16 DIRECTION, 16 SIZE, 8 legal. -/
def Obligations.CausesMatchDescriptorLists : Prop :=
  (∀ (txn : Txn) (cause : Cause), causeOf txn = some cause ↔ cause.raisedBy txn.desc txn.wdata = true) ∧
  (let descs := (List.range 256).map (fun n => (⟨BitVec.ofNat 8 n, 0⟩ : Txn))
   descs.countP (fun txn => causeOf txn == some .unmapped) = 216 ∧
   descs.countP (fun txn => causeOf txn == some .direction) = 16 ∧
   descs.countP (fun txn => causeOf txn == some .size) = 16 ∧
   descs.countP (fun txn => causeOf txn == none) = 8)

/-- A few words written out from R60 to R63, and three the decoder rejects (R162). -/
def Obligations.DecodedWords : Prop :=
  decode ⟨0b11000000, 0x00000001⟩ = .ctrlWr 1 ∧ decode ⟨0b10100100, 0x00006162⟩ = .dataWr16 0x6162 ∧
  decode ⟨0b01001000, 0⟩ = .resultRd 0 ∧ decode ⟨0b01010000, 0⟩ = .statusRd 0 ∧
  decode ⟨0b10000101, 0x00000052⟩ = .busErr .unmapped 0x85 0x52 ∧ decode ⟨0b00000100, 0⟩ = .busErr .direction 0x04 0 ∧
  decode ⟨0b11000000, 0x80000001⟩ = .busErr .rsvdBits 0xC0 0x80000001

/-- Encoding a well-formed instruction and decoding it gives it back, with every operand. -/
def Obligations.DecodeAfterEncode : Prop := ∀ i : Instr, i.wf = true → decode (encode i) = i

/-- Every transaction decodes to a well-formed instruction that encodes to that same transaction: no bit is dropped. -/
def Obligations.EncodeAfterDecode : Prop := ∀ txn : Txn, (decode txn).wf = true ∧ encode (decode txn) = txn

/-- R40: the platform routes exactly the window's 32 addresses, to their offsets, and the window is aligned. -/
def Obligations.WindowRouting : Prop :=
  Config.crcBase % 32 = 0 ∧
  (∀ off : BitVec 5, windowOffset (Config.crcBase + off.toNat) = some off) ∧
  (∀ address : Nat, address < Config.crcBase ∨ Config.crcBase + 32 ≤ address → windowOffset address = none)

/-- R41: the transaction primitives. -/
def Obligations.BusPrimitives : Prop :=
  (∀ (off : BitVec 5) (n : AccessSize) (v : Word),
    (busWrite off n v).isWrite = true ∧ (busWrite off n v).offset = off ∧
    accessBytes (busWrite off n v).sizeCode = some (sizeBytes n) ∧ (busWrite off n v).wdata = v ∧
    (busRead off n).isWrite = false ∧ (busRead off n).offset = off ∧ accessBytes (busRead off n).sizeCode = some (sizeBytes n)) ∧
  (∀ (off : BitVec 5) (n : AccessSize) (v v' : Word) (s : State),
    v.toNat % 2 ^ (8 * sizeBytes n) = v'.toNat % 2 ^ (8 * sizeBytes n) →
    issue (busWrite off n v) s = issue (busWrite off n v') s) ∧
  (∀ (off : BitVec 5) (n : AccessSize) (wdata : Word) (s : State),
    issue { busRead off n with wdata := wdata } s = issue (busRead off n) s) ∧
  (∀ (off : BitVec 5) (n : AccessSize) (v : Word) (s : State),
    ∃ t, issue (busWrite off n v) s = .next t ∧ (t.response = some (.okay 0) ∨ t.response = some .error)) ∧
  (∀ (off : BitVec 5) (n : AccessSize) (s : State), ∃ t r, issue (busRead off n) s = .next t ∧ t.response = some r) ∧
  (∀ (txn : Txn) (s : State), issue txn s = exec (decode txn) s)

/-! ### The instructions -/

/-- R100: CTRL_WR, whole: its encoding, its effect and frame on every WDATA it is legal with, its exceptions with their
effect on every other, and its corner cases (the NOP of D34, INIT right after reset, repetition). -/
def Obligations.CtrlWrResult : Prop :=
  (∀ (w : Word) (s : State), w.extractLsb' 2 30 = 0 →
    exec (.ctrlWr w) s = .next { s with
      acc := if w.getLsbD 0 then 0xFFFFFFFF else s.acc
      ok := if w.getLsbD 0 then false else s.ok
      mismatch := if w.getLsbD 0 then false else s.mismatch
      err := if w.getLsbD 1 then false else s.err
      errCause := if w.getLsbD 1 then 0 else s.errCause
      response := some (.okay 0) }) ∧
  (∀ w : Word, w.extractLsb' 2 30 = 0 → decode ⟨0xC0, w⟩ = .ctrlWr w) ∧
  (∀ w : Word, w.extractLsb' 2 30 ≠ 0 → decode ⟨0xC0, w⟩ = .busErr .rsvdBits 0xC0 w) ∧
  (∀ (desc : Byte) (w : Word), desc ∈ [0x80, 0xA0, 0xE0] → decode ⟨desc, w⟩ = .busErr .size desc w) ∧
  (∀ (desc : Byte) (w : Word), desc ∈ [0x00, 0x20, 0x40, 0x60] → decode ⟨desc, w⟩ = .busErr .direction desc w) ∧
  (∀ (cause : Cause) (desc : Byte) (w : Word) (s : State),
    exec (.busErr cause desc w) s = .next { s with
      err := true, errCause := if s.err then s.errCause else causeCode cause, response := some .error }) ∧
  (∀ s : State, issue nopTxn s = .next { s with response := some (.okay 0) }) ∧
  issue initTxn State.reset = .next { State.reset with response := some (.okay 0) } ∧
  (∀ (w : Word) (s t : State), w.extractLsb' 2 30 = 0 → exec (.ctrlWr w) s = .next t → exec (.ctrlWr w) t = .next t)

/-- The model's choice (DESIGN CHOICE, log entry 5), no rule of the spec: `exec` of a CTRL_WR whose reserved bits are set,
which the decoder never gives, acts by bits 0 and 1 and ignores the others. -/
def Obligations.CtrlWrIgnoresReservedBits : Prop :=
  (∀ (w w' : Word) (s : State), w.extractLsb' 0 2 = w'.extractLsb' 0 2 → exec (.ctrlWr w) s = exec (.ctrlWr w') s) ∧
  (∀ (w : Word) (s : State),
    exec (.ctrlWr w) s = .next { s with
      acc := if w.getLsbD 0 then 0xFFFFFFFF else s.acc
      ok := if w.getLsbD 0 then false else s.ok
      mismatch := if w.getLsbD 0 then false else s.mismatch
      err := if w.getLsbD 1 then false else s.err
      errCause := if w.getLsbD 1 then 0 else s.errCause
      response := some (.okay 0) }) ∧
  (∀ (w : Word) (s t : State), exec (.ctrlWr w) s = .next t → exec (.ctrlWr w) t = .next t)

/-- R110: DATA_WR8, whole. -/
def Obligations.DataWr8Result : Prop :=
  (∀ (w : Word) (s : State), decode ⟨0x84, w⟩ = .dataWr8 w ∧
    exec (.dataWr8 w) s = .next { s with
      acc := upd s.acc (w.extractLsb' 0 8), ok := false, mismatch := false, response := some (.okay 0) }) ∧
  (∀ (desc : Byte) (w : Word), desc ∈ [0x85, 0x86, 0x87] → decode ⟨desc, w⟩ = .busErr .unmapped desc w) ∧
  (∀ (desc : Byte) (w : Word), desc ∈ [0x04, 0x24, 0x44, 0x64] → decode ⟨desc, w⟩ = .busErr .direction desc w) ∧
  (∀ (cause : Cause) (desc : Byte) (w : Word) (s : State),
    ∃ t, exec (.busErr cause desc w) s = .next t ∧ t.acc = s.acc) ∧
  upd 0xFFFFFFFF 0x00 = 0x2DFD1072 ∧ upd 0xFFFFFFFF 0xFF = 0x00FFFFFF ∧
  upd 0xFFFFFFFF 0x61 = 0x174841BC ∧ crc32 [0x61] = 0xE8B7BE43

/-- R111: DATA_WR16, whole (its exceptions are R110's). -/
def Obligations.DataWr16Result : Prop :=
  (∀ (w : Word) (s : State), decode ⟨0xA4, w⟩ = .dataWr16 w ∧
    exec (.dataWr16 w) s = .next { s with
      acc := upd (upd s.acc (w.extractLsb' 8 8)) (w.extractLsb' 0 8)
      ok := false, mismatch := false, response := some (.okay 0) }) ∧
  (∀ (desc : Byte) (w : Word), desc ∈ [0xA5, 0xA6, 0xA7] → decode ⟨desc, w⟩ = .busErr .unmapped desc w) ∧
  (∀ (desc : Byte) (w : Word), desc ∈ [0x04, 0x24, 0x44, 0x64] → decode ⟨desc, w⟩ = .busErr .direction desc w) ∧
  (∀ (cause : Cause) (desc : Byte) (w : Word) (s : State),
    ∃ t, exec (.busErr cause desc w) s = .next t ∧ t.acc = s.acc) ∧
  crc32 [0x61, 0x62] = 0x9E83486D

/-- R112: DATA_WR32, whole, with its claim that 0xFFFFFFFF is the only word that drives ACC from the initial value to 0
because the map from the word to ACC is a bijection. -/
def Obligations.DataWr32Result : Prop :=
  (∀ (w : Word) (s : State), decode ⟨0xC4, w⟩ = .dataWr32 w ∧
    exec (.dataWr32 w) s = .next { s with
      acc := upd (upd (upd (upd s.acc (w.extractLsb' 24 8)) (w.extractLsb' 16 8)) (w.extractLsb' 8 8)) (w.extractLsb' 0 8)
      ok := false, mismatch := false, response := some (.okay 0) }) ∧
  (∀ (desc : Byte) (w : Word), desc ∈ [0xC5, 0xC6, 0xC7] → decode ⟨desc, w⟩ = .busErr .unmapped desc w) ∧
  (∀ (desc : Byte) (w : Word), desc ∈ [0x04, 0x24, 0x44, 0x64] → decode ⟨desc, w⟩ = .busErr .direction desc w) ∧
  (∀ (cause : Cause) (desc : Byte) (w : Word) (s : State),
    ∃ t, exec (.busErr cause desc w) s = .next t ∧ t.acc = s.acc) ∧
  absorb 0xFFFFFFFF (fedBytes (.dataWr32 0x00000000)) = 0xDEBB20E3 ∧
  absorb 0xFFFFFFFF (fedBytes (.dataWr32 0x49454E44)) = 0x51BD9F7D ∧
  (∀ w : Word, absorb 0xFFFFFFFF (fedBytes (.dataWr32 w)) = 0 ↔ w = 0xFFFFFFFF) ∧
  (∀ a : Word, Function.Bijective (fun w : Word => absorb a (fedBytes (.dataWr32 w))))

/-- R120: RESULT_RD, whole: no register changes, and the answer is the CRC of the bytes so far. -/
def Obligations.ResultRdResult : Prop :=
  (∀ (w : Word) (s : State), decode ⟨0x48, w⟩ = .resultRd w ∧
    exec (.resultRd w) s = .next { s with response := some (.okay (s.acc ^^^ 0xFFFFFFFF)) }) ∧
  (∀ (w : Word) (s : State) (m : List Byte), s.acc = absorb 0xFFFFFFFF m →
    exec (.resultRd w) s = .next { s with response := some (.okay (crc32 m)) }) ∧
  (∀ (desc : Byte) (w : Word), desc ∈ [0x08, 0x28, 0x68] → decode ⟨desc, w⟩ = .busErr .size desc w) ∧
  (∀ (desc : Byte) (w : Word), desc ∈ [0x88, 0xA8, 0xC8, 0xE8] → decode ⟨desc, w⟩ = .busErr .direction desc w) ∧
  (∀ (cause : Cause) (desc : Byte) (w : Word) (s : State),
    ∃ t, exec (.busErr cause desc w) s = .next t ∧ t.err = true ∧ t.acc = s.acc) ∧
  crc32 [] = 0x00000000 ∧ crc32 [0x31, 0x32, 0x33, 0x34, 0x35, 0x36, 0x37, 0x38, 0x39] = 0xCBF43926

/-- R121: EXPECT_WR, whole: the compare with the current RESULT, okay for a mismatch too. -/
def Obligations.ExpectWrResult : Prop :=
  (∀ (v : Word) (s : State), decode ⟨0xCC, v⟩ = .expectWr v ∧
    exec (.expectWr v) s = .next (if v = s.acc ^^^ 0xFFFFFFFF
      then { s with expect := v, ok := true, mismatch := false, response := some (.okay 0) }
      else { s with expect := v, ok := false, mismatch := true, response := some (.okay 0) })) ∧
  (∀ (desc : Byte) (w : Word), desc ∈ [0x8C, 0xAC, 0xEC] → decode ⟨desc, w⟩ = .busErr .size desc w) ∧
  (∀ (cause : Cause) (desc : Byte) (w : Word) (s : State),
    ∃ t, exec (.busErr cause desc w) s = .next t ∧ t.expect = s.expect ∧ t.ok = s.ok ∧ t.mismatch = s.mismatch)

/-- R122: EXPECT_RD, whole: no register changes; only EXPECT_WR ever changes what it reads. -/
def Obligations.ExpectRdResult : Prop :=
  (∀ (w : Word) (s : State), decode ⟨0x4C, w⟩ = .expectRd w ∧
    exec (.expectRd w) s = .next { s with response := some (.okay s.expect) }) ∧
  (∀ (desc : Byte) (w : Word), desc ∈ [0x0C, 0x2C, 0x6C] → decode ⟨desc, w⟩ = .busErr .size desc w) ∧
  State.reset.expect = 0x00000000 ∧
  (∀ (i : Instr) (s t : State), (∀ v, i ≠ .expectWr v) → exec i s = .next t → t.expect = s.expect)

/-- R123: STATUS_RD, whole: no register changes, a STATUS access that fails sets ERR, and only a CTRL_WR with CLR_ERR = 1
and reset clear it; with its corner cases. -/
def Obligations.StatusRdResult : Prop :=
  (∀ (w : Word) (s : State), decode ⟨0x50, w⟩ = .statusRd w ∧
    exec (.statusRd w) s = .next { s with response := some (.okay
      ((s.errCause ++ 0#1 ++ BitVec.ofBool s.err ++ BitVec.ofBool s.mismatch ++ BitVec.ofBool s.ok).setWidth 32)) }) ∧
  (∀ (desc : Byte) (w : Word), desc ∈ [0x10, 0x30, 0x70] → decode ⟨desc, w⟩ = .busErr .size desc w) ∧
  (∀ (desc : Byte) (w : Word), desc ∈ [0x90, 0xB0, 0xD0, 0xF0] → decode ⟨desc, w⟩ = .busErr .direction desc w) ∧
  (∀ (cause : Cause) (desc : Byte) (w : Word) (s : State), ∃ t, exec (.busErr cause desc w) s = .next t ∧ t.err = true ∧
    (s.err = false → t.errCause = causeCode cause) ∧ (s.err = true → t.errCause = s.errCause)) ∧
  (∀ s t : State, step s = .next t → s.err = true → t.err = false →
    (∃ inFlight rest, s.inputs = .reset inFlight :: rest) ∨
    (∃ txn rest w, s.inputs = .request txn :: rest ∧ decode txn = .ctrlWr w ∧ w.getLsbD 1 = true)) ∧
  (∀ w : Word, exec (.statusRd w) State.reset = .next { State.reset with response := some (.okay 0x00000000) }) ∧
  (∀ (v w : Word) (s : State), s.err = false → s.errCause = 0 →
    ∃ t, andThen (exec (.expectWr v) s) (exec (.statusRd w)) = .next t ∧
      t.response = some (.okay (if v = s.acc ^^^ 0xFFFFFFFF then 0x00000001 else 0x00000002))) ∧
  (∀ (cause : Cause) (desc : Byte) (w w' : Word) (s : State), s.err = false →
    ∃ t, andThen (exec (.busErr cause desc w) s) (exec (.statusRd w')) = .next t ∧
      t.response = some (.okay
        ((causeCode cause ++ 0#1 ++ 1#1 ++ BitVec.ofBool s.mismatch ++ BitVec.ofBool s.ok).setWidth 32)))

/-- R24: the value of a STATUS read, in both of the rule's forms. -/
def Obligations.StatusReadValue : Prop :=
  ∀ (w : Word) (s : State), ∃ t, exec (.statusRd w) s = .next t ∧ t.response = some (.okay
      ((s.errCause ++ 0#1 ++ BitVec.ofBool s.err ++ BitVec.ofBool s.mismatch ++ BitVec.ofBool s.ok).setWidth 32)) ∧
    t.response = some (.okay ((BitVec.ofBool s.ok).setWidth 32 ||| ((BitVec.ofBool s.mismatch).setWidth 32 <<< 1) |||
      ((BitVec.ofBool s.err).setWidth 32 <<< 2) ||| (s.errCause.setWidth 32 <<< 4)))

/-- R161: the effect of a bus error, from the step: the transaction has no other effect. -/
def Obligations.BusErrorEffect : Prop :=
  (∀ (cause : Cause) (desc : Byte) (w : Word) (s : State),
    exec (.busErr cause desc w) s = .next { s with
      err := true, errCause := if s.err then s.errCause else causeCode cause, response := some .error }) ∧
  (∀ (s : State) (txn : Txn) (rest : List HostMove) (cause : Cause), s.inputs = .request txn :: rest →
    causeOf txn = some cause →
    step s = .next { s with
      inputs := rest, err := true, errCause := if s.err then s.errCause else causeCode cause, response := some .error }) ∧
  Response.error.rdata = 0x00000000

/-- R166: errors while ERR = 1 nest without effect, and CLR_ERR re-arms the record. -/
def Obligations.ClearErrorRearms : Prop :=
  ∀ (s : State) (c1 c2 : Cause) (d1 d2 : Byte) (w1 w2 : Word),
    ∃ t u v, exec (.busErr c1 d1 w1) s = .next t ∧ exec (.busErr c2 d2 w2) t = .next u ∧ u = t ∧
      andThen (issue clrErrTxn u) (exec (.busErr c2 d2 w2)) = .next v ∧ v = { u with errCause := causeCode c2 }

/-- R180: the reset state, and that it is what CTRL_WR 3 gives except for EXPECT. -/
def Obligations.ResetState : Prop :=
  State.reset.acc = 0xFFFFFFFF ∧ State.reset.expect = 0x00000000 ∧ State.reset.ok = false ∧
  State.reset.mismatch = false ∧ State.reset.err = false ∧ State.reset.errCause = 0 ∧ State.reset.statusWord = 0x00000000 ∧
  (∀ w : Word, exec (.resultRd w) State.reset = .next { State.reset with response := some (.okay 0x00000000) }) ∧
  (∀ s : State, issue initClrErrTxn s =
    .next { State.reset with expect := s.expect, inputs := s.inputs, response := some (.okay 0) })

/-! ### What writes each register -/

/-- R21: what writes ACC, with what value, and that nothing else does; RESULT shows all of it. -/
def Obligations.AccWriters : Prop :=
  (∀ s t : State, step s = .next t → t.acc =
    match s.inputs with
    | [] => s.acc
    | .reset _ :: _ => 0xFFFFFFFF
    | .request txn :: _ =>
      match decode txn with
      | .ctrlWr w => if w.getLsbD 0 then 0xFFFFFFFF else s.acc
      | .dataWr8 w => upd s.acc (w.extractLsb' 0 8)
      | .dataWr16 w => upd (upd s.acc (w.extractLsb' 8 8)) (w.extractLsb' 0 8)
      | .dataWr32 w =>
        upd (upd (upd (upd s.acc (w.extractLsb' 24 8)) (w.extractLsb' 16 8)) (w.extractLsb' 8 8)) (w.extractLsb' 0 8)
      | _ => s.acc) ∧
  (∀ (w : Word) (s : State), exec (.resultRd w) s = .next { s with response := some (.okay (s.acc ^^^ 0xFFFFFFFF)) }) ∧
  Function.Injective (fun a : Word => a ^^^ 0xFFFFFFFF)

/-- R22: what writes EXPECT, and that EXPECT_RD reads the last value written. -/
def Obligations.ExpectWriters : Prop :=
  (∀ s t : State, step s = .next t → t.expect =
    match s.inputs with
    | [] => s.expect
    | .reset _ :: _ => 0x00000000
    | .request txn :: _ =>
      match decode txn with
      | .expectWr v => v
      | _ => s.expect) ∧
  (∀ (v w : Word) (s t u : State), exec (.expectWr v) s = .next t → exec (.expectRd w) t = .next u →
    u.response = some (.okay v)) ∧
  (∀ txn : Txn, txn.offset.toNat = 0x0C → (causeOf txn = none ↔ txn.sizeCode = 0b10)) ∧
  (∀ v : Word, decode ⟨0xCC, v⟩ = .expectWr v ∧ decode ⟨0x4C, v⟩ = .expectRd v)

/-- R23: what sets and what clears each STATUS field, bit by bit, and that a STATUS access writes none. -/
def Obligations.StatusFieldWriters : Prop :=
  (∀ s t : State, step s = .next t → (t.ok, t.mismatch) =
    match s.inputs with
    | [] => (s.ok, s.mismatch)
    | .reset _ :: _ => (false, false)
    | .request txn :: _ =>
      match decode txn with
      | .ctrlWr w => if w.getLsbD 0 then (false, false) else (s.ok, s.mismatch)
      | .dataWr8 _ => (false, false)
      | .dataWr16 _ => (false, false)
      | .dataWr32 _ => (false, false)
      | .expectWr v => if v = s.acc ^^^ 0xFFFFFFFF then (true, false) else (false, true)
      | _ => (s.ok, s.mismatch)) ∧
  (∀ s t : State, step s = .next t → (t.err, t.errCause) =
    match s.inputs with
    | [] => (s.err, s.errCause)
    | .reset _ :: _ => (false, 0)
    | .request txn :: _ =>
      match decode txn with
      | .ctrlWr w => if w.getLsbD 1 then (false, 0) else (s.err, s.errCause)
      | .busErr cause _ _ => if s.err then (true, s.errCause) else (true, causeCode cause)
      | _ => (s.err, s.errCause)) ∧
  (∀ s : State, s.statusWord.getLsbD 0 = s.ok ∧ s.statusWord.getLsbD 1 = s.mismatch ∧ s.statusWord.getLsbD 2 = s.err ∧
    s.statusWord.getLsbD 3 = false ∧ s.statusWord.extractLsb' 4 3 = s.errCause ∧ s.statusWord.extractLsb' 7 25 = 0) ∧
  (∀ w : Word, decode ⟨0x50, w⟩ = .statusRd w) ∧
  (∀ (desc : Byte) (w : Word), desc ∈ [0x10, 0x30, 0x70] → decode ⟨desc, w⟩ = .busErr .size desc w) ∧
  (∀ (desc : Byte) (w : Word), desc ∈ [0x90, 0xB0, 0xD0, 0xF0] → decode ⟨desc, w⟩ = .busErr .direction desc w)

/-- R31: no operation but STATUS_RD reads the flags: ACC, EXPECT and every other answer do not depend on them. -/
def Obligations.FlagsReadOnlyByStatusRd : Prop :=
  ∀ (i : Instr) (s s' t t' : State), s'.acc = s.acc → s'.expect = s.expect → s'.inputs = s.inputs →
    exec i s = .next t → exec i s' = .next t' →
    t'.acc = t.acc ∧ t'.expect = t.expect ∧ t'.inputs = t.inputs ∧ ((∀ w, i ≠ .statusRd w) → t'.response = t.response)

/-- R47's table, which the spec derives: a read that succeeds has no side effect, every access but a DATA write is
idempotent, and a DATA write of each size is not. -/
def Obligations.SideEffectsAndIdempotency : Prop :=
  (∀ (w : Word) (i : Instr) (s : State), i ∈ [.resultRd w, .expectRd w, .statusRd w] →
    ∃ rdata, exec i s = .next { s with response := some (.okay rdata) }) ∧
  (∀ (txn : Txn) (s t u : State), isDataWrite (decode txn) = false → issue txn s = .next t → issue txn t = .next u → u = t) ∧
  (∀ desc : Byte, desc ∈ [0x84, 0xA4, 0xC4] →
    ∃ (w : Word) (s t u : State), issue ⟨desc, w⟩ s = .next t ∧ issue ⟨desc, w⟩ t = .next u ∧ u.acc ≠ t.acc)

/-! ### Invariants -/

/-- R25's invariants (the spec derives them) hold at reset. -/
def Obligations.InvariantsAtReset : Prop := State.reset.Inv

/-- R25: every step, from any state that meets the invariants, keeps them. -/
def Obligations.StepKeepsInvariants : Prop := ∀ s t : State, s.Inv → step s = .next t → t.Inv

/-- R25: the invariants hold in every reachable state, whatever the host presents. -/
def Obligations.ReachableStatesMeetInvariants : Prop := ∀ s : State, Reachable s → s.Inv

/-! ### The CRC function (R83 to R91 are the spec's own derivations) -/

/-- R83 to R85, with their examples. -/
def Obligations.OneBitStepAndByteUpdate : Prop :=
  (0x04C11DB7#32).reverse = 0xEDB88320#32 ∧
  (∀ a : Word, step1 a = if a.getLsbD 0 then (a >>> 1) ^^^ (0x04C11DB7#32).reverse else a >>> 1) ∧
  (∀ (a : Word) (b : Byte),
    upd a b = step1 (step1 (step1 (step1 (step1 (step1 (step1 (step1 (a ^^^ b.setWidth 32))))))))) ∧
  step1 0xFFFFFFFF = 0x92477CDF ∧ upd 0xFFFFFFFF 0x52 = 0xA89820AA ∧ upd 0x00000000 0x01 = 0x77073096

/-- R87: the table form gives the byte update on every accumulator and byte, with the rule's selected entries. -/
def Obligations.TableFormIsByteUpdate : Prop :=
  (∀ (a : Word) (b : Byte), upd a b = (a >>> 8) ^^^ tableEntry ((a ^^^ b.setWidth 32).extractLsb' 0 8)) ∧
  tableEntry 0 = 0x00000000 ∧ tableEntry 1 = 0x77073096 ∧ tableEntry 2 = 0xEE0E612C ∧ tableEntry 128 = 0xEDB88320 ∧
  tableEntry 255 = 0x2D02EF8D

/-- R88 and R89: the split law, and the empty message. -/
def Obligations.AbsorbSplit : Prop :=
  (∀ (a : Word) (m n : List Byte), absorb a (m ++ n) = absorb (absorb a m) n) ∧ crc32 [] = 0x00000000

/-- R90: affine linearity, in both forms. -/
def Obligations.CrcAffineLinearity : Prop :=
  (∀ m n k : List Byte, m.length = n.length → n.length = k.length →
    crc32 (List.zipWith (· ^^^ ·) (List.zipWith (· ^^^ ·) m n) k) = crc32 m ^^^ crc32 n ^^^ crc32 k) ∧
  (∀ m e : List Byte, m.length = e.length →
    crc32 (List.zipWith (· ^^^ ·) m e) ^^^ crc32 m = crc32 e ^^^ crc32 (List.replicate e.length 0))

/-- R91: flipping any one bit of a message changes its CRC. -/
def Obligations.SingleBitErrorChangesCrc : Prop :=
  ∀ (before after : List Byte) (b : Byte) (j : Nat), j < 8 →
    crc32 (before ++ (b ^^^ BitVec.twoPow 8 j) :: after) ≠ crc32 (before ++ b :: after)

/-- R81 and R86: the MSB-first register algorithm of the CRC's parameters gives the same CRC (the reflection identity; the
meaning of the parameters is the spec's general knowledge, G1 to G3). -/
def Obligations.MsbFirstFormAgrees : Prop := ∀ m : List Byte, crc32Msb m = crc32 m

/-- R81's mathematical definition (the spec's general knowledge, G1 and G2): reg, the bits of crc32 before the final XOR in
opposite order, is the remainder of x^32 M(x) + x^(8n) U(x) by the generator, over GF(2). -/
def Obligations.CrcIsPolynomialRemainder : Prop :=
  ∀ m : List Byte,
    (∑ j ∈ Finset.range 32,
      if (crc32 m ^^^ 0xFFFFFFFF).reverse.getLsbD j then (Polynomial.X : Polynomial (ZMod 2)) ^ j else 0) =
    (Polynomial.X ^ 32 *
        (∑ i ∈ Finset.range (8 * m.length),
          if (m.getD (i / 8) 0).getLsbD (i % 8) then (Polynomial.X : Polynomial (ZMod 2)) ^ (8 * m.length - 1 - i) else 0) +
      Polynomial.X ^ (8 * m.length) * (∑ j ∈ Finset.range 32, (Polynomial.X : Polynomial (ZMod 2)) ^ j)) %ₘ
    (Polynomial.X ^ 32 + Polynomial.X ^ 26 + Polynomial.X ^ 23 + Polynomial.X ^ 22 + Polynomial.X ^ 16 + Polynomial.X ^ 12 +
      Polynomial.X ^ 11 + Polynomial.X ^ 10 + Polynomial.X ^ 8 + Polynomial.X ^ 7 + Polynomial.X ^ 5 + Polynomial.X ^ 4 +
      Polynomial.X ^ 2 + Polynomial.X + 1)

/-! ### Messages -/

/-- R113 (the spec derives it): every split of a message is the same; the frame of a sequence of DATA writes. -/
def Obligations.EverySplitIsTheSame : Prop :=
  ∀ (writes : List Instr) (s : State), (∀ i ∈ writes, isDataWrite i = true) →
    ∃ t, issueAll (writes.map encode) s = .next t ∧ t.acc = absorb s.acc (writes.flatMap fedBytes) ∧
      t.expect = s.expect ∧ t.err = s.err ∧ t.errCause = s.errCause ∧ t.inputs = s.inputs ∧
      (writes ≠ [] → t.ok = false ∧ t.mismatch = false ∧ t.response = some (.okay 0)) ∧ (writes = [] → t = s)

/-- R9, R86, R101, R187: over any moves of the host (transactions legal or not, resets), ACC is that of the message, the
bytes fed since the last INIT or reset; without an INIT between, that is the two messages concatenated. -/
def Obligations.AccumulatorTracksMessage : Prop :=
  ∀ (moves rest : List HostMove) (message : List Byte) (s : State), s.Holds message →
    ∃ t, runSteps moves.length { s with inputs := moves ++ rest } = .next t ∧ t.Holds (messageAfter message moves)

/-- R124 (the spec derives it): the generator law, from INIT in any state and from reset; transactions that are no INIT,
bus errors among them, may stand between the DATA writes. -/
def Obligations.GeneratorLaw : Prop :=
  ∀ (is : List Instr) (w : Word), (∀ i ∈ is, i.wf = true ∧ startsMessage i = false) →
    (∀ s : State, ∃ t, issueAll (initTxn :: is.map encode ++ [encode (.resultRd w)]) s = .next t ∧
      t.response = some (.okay (crc32 (is.flatMap fedBytes)))) ∧
    (∃ t, issueAll (is.map encode ++ [encode (.resultRd w)]) State.reset = .next t ∧
      t.response = some (.okay (crc32 (is.flatMap fedBytes))))

/-- R125 (the spec derives it): the validator law, in the same situation. -/
def Obligations.ValidatorLaw : Prop :=
  ∀ (is : List Instr) (v : Word), (∀ i ∈ is, i.wf = true ∧ startsMessage i = false) →
    (∀ s : State, ∃ t, issueAll (initTxn :: is.map encode ++ [checkTxn v]) s = .next t ∧
      (t.ok = true ↔ v = crc32 (is.flatMap fedBytes)) ∧ (t.mismatch = true ↔ v ≠ crc32 (is.flatMap fedBytes)) ∧
      t.expect = v ∧ t.response = some (.okay 0)) ∧
    (∃ t, issueAll (is.map encode ++ [checkTxn v]) State.reset = .next t ∧
      (t.ok = true ↔ v = crc32 (is.flatMap fedBytes)) ∧ (t.mismatch = true ↔ v ≠ crc32 (is.flatMap fedBytes)) ∧
      t.expect = v ∧ t.response = some (.okay 0))

/-! ### Host procedures -/

/-- R67: the pseudo-instructions' expansions, and that FEED feeds exactly its bytes by DATA writes. -/
def Obligations.PseudoInstructionExpansions : Prop :=
  nopTxn = ⟨0xC0, 0x00000000⟩ ∧ initTxn = ⟨0xC0, 0x00000001⟩ ∧ clrErrTxn = ⟨0xC0, 0x00000002⟩ ∧
  initClrErrTxn = ⟨0xC0, 0x00000003⟩ ∧ (∀ v : Word, checkTxn v = ⟨0xCC, v⟩) ∧
  (∀ (b0 b1 b2 b3 : Byte) (rest : List Byte),
    feedTxns (b0 :: b1 :: b2 :: b3 :: rest) = ⟨0xC4, b0 ++ b1 ++ b2 ++ b3⟩ :: feedTxns rest) ∧
  (∀ b0 b1 b2 : Byte, feedTxns [b0, b1, b2] = [⟨0xA4, (b0 ++ b1).setWidth 32⟩, ⟨0x84, b2.setWidth 32⟩] ∧
    feedTxns [b0, b1] = [⟨0xA4, (b0 ++ b1).setWidth 32⟩] ∧ feedTxns [b0] = [⟨0x84, b0.setWidth 32⟩]) ∧
  (∀ m : List Byte, (∀ txn ∈ feedTxns m, isDataWrite (decode txn) = true) ∧
    (feedTxns m).flatMap (fun txn => fedBytes (decode txn)) = m)

/-- R146: packing message bytes into DATA writes on a big-endian and a little-endian host. -/
def Obligations.PackingBytes : Prop :=
  ∀ b0 b1 b2 b3 : Byte,
    fedBytes (.dataWr32 (loadBigEndian b0 b1 b2 b3)) = [b0, b1, b2, b3] ∧
    byteReverse (loadLittleEndian b0 b1 b2 b3) = loadBigEndian b0 b1 b2 b3 ∧
    fedBytes (.dataWr32 (loadLittleEndian b0 b1 b2 b3)) = [b3, b2, b1, b0] ∧
    [b0, b1, b2, b3].flatMap (fun b => fedBytes (.dataWr8 (b.setWidth 32))) = [b0, b1, b2, b3] ∧
    loadLittleEndian 0x49 0x45 0x4E 0x44 = 0x444E4549 ∧ crc32 [0x44, 0x4E, 0x45, 0x49] ≠ crc32 [0x49, 0x45, 0x4E, 0x44]

/-- R142: one pass of the generator gives the CRC of type ‖ payload, or void exactly where ERR is set, and changes neither
EXPECT nor ERR; a void computation is restarted until it gives the CRC, which it does once ERR is cleared and never before.
What the host issues before a restart, and that it may stop restarting, is log entry 7. -/
def Obligations.GenerateReturnsCrc : Prop :=
  (∀ (ty : Vector Byte 4) (payload : List Byte) (s : State),
    ∃ t, generateAttempt ty payload s = .next (if s.err then .void else .crc (crc32 (ty.toList ++ payload)), t) ∧
      t.expect = s.expect ∧ t.err = s.err ∧ t.errCause = s.errCause ∧
      (∀ restarts, s.err = false → generate restarts ty payload s = .next (.crc (crc32 (ty.toList ++ payload)), t)) ∧
      (∀ txns restarts, s.err = true →
        generate (txns :: restarts) ty payload s = andThen (issueAll txns t) (generate restarts ty payload))) ∧
  (∀ (restarts : List (List Txn)) (ty : Vector Byte 4) (payload : List Byte) (s : State),
    ∃ g t, generate restarts ty payload s = .next (g, t) ∧ (g = .void ∨ g = .crc (crc32 (ty.toList ++ payload)))) ∧
  (∀ (restarts : List (List Txn)) (ty : Vector Byte 4) (payload : List Byte) (s : State),
    ∃ t, generate ([clrErrTxn] :: restarts) ty payload s = .next (.crc (crc32 (ty.toList ++ payload)), t)) ∧
  (∀ (n : Nat) (ty : Vector Byte 4) (payload : List Byte) (s : State), s.err = true →
    ∃ t, generate (List.replicate n []) ty payload s = .next (.void, t))

/-- R144 and R145: the validator's verdict, and that the software compare gives the same one, writing neither EXPECT nor a
flag by a compare; void and restarted where a bus error is on record; and the host's TooShort before the block is used. The
host's transactions before a restart, and the STATUS read of the software compare, are log entry 7. -/
def Obligations.ValidateVerdict : Prop :=
  (∀ (restarts : List (List Txn)) (c : List Byte) (s : State), 12 ≤ c.length → s.err = false →
    (∃ t, validate restarts c s = .next (if storedCrc c = crc32 (spanMessage c) then .ok else .crcMismatch, t) ∧
      t.expect = storedCrc c) ∧
    (∃ t, validateBySoftware restarts c s =
        .next (if storedCrc c = crc32 (spanMessage c) then .ok else .crcMismatch, t) ∧
      t.expect = s.expect ∧ t.ok = false ∧ t.mismatch = false)) ∧
  (∀ (c : List Byte) (s : State), 12 ≤ c.length → s.err = true →
    (∃ t, validateAttempt c s = .next (.void, t) ∧ t.err = true ∧ t.errCause = s.errCause ∧
      ∀ txns restarts, validate (txns :: restarts) c s = andThen (issueAll txns t) (validate restarts c)) ∧
    (∃ t, validateBySoftwareAttempt c s = .next (.void, t) ∧ t.err = true ∧ t.errCause = s.errCause ∧
      ∀ txns restarts, validateBySoftware (txns :: restarts) c s =
        andThen (issueAll txns t) (validateBySoftware restarts c))) ∧
  (∀ (restarts : List (List Txn)) (c : List Byte) (s : State), 12 ≤ c.length →
    (∃ t, validate ([clrErrTxn] :: restarts) c s =
      .next (if storedCrc c = crc32 (spanMessage c) then .ok else .crcMismatch, t)) ∧
    (∃ t, validateBySoftware ([clrErrTxn] :: restarts) c s =
      .next (if storedCrc c = crc32 (spanMessage c) then .ok else .crcMismatch, t))) ∧
  (∀ (restarts : List (List Txn)) (c : List Byte) (s : State), c.length < 12 →
    validate restarts c s = .next (.tooShort, s) ∧ validateBySoftware restarts c s = .next (.tooShort, s))

/-- R147 (the spec derives it): a chunk generated on the block and written on the wire validates Ok: with no bus error on
record without any restart, and in every state once ERR is cleared before the restart. -/
def Obligations.GeneratedChunkValidates : Prop :=
  (∀ (restarts restarts' : List (List Txn)) (ty : Vector Byte 4) (payload : List Byte) (s s' : State),
    s.err = false → s'.err = false →
    ∃ crc t t', generate restarts ty payload s = .next (.crc crc, t) ∧
      validate restarts' (chunkWire ty payload crc) s' = .next (.ok, t')) ∧
  (∀ (restarts restarts' : List (List Txn)) (ty : Vector Byte 4) (payload : List Byte) (s s' : State),
    ∃ crc t t', generate ([clrErrTxn] :: restarts) ty payload s = .next (.crc crc, t) ∧
      validate ([clrErrTxn] :: restarts') (chunkWire ty payload crc) s' = .next (.ok, t'))

/-- R148 (the spec derives it): flip exactly one bit of a valid chunk. In the type, the payload or the stored CRC it is
found; in the length field it is not, because the CRC never covers the length. -/
def Obligations.CorruptionIsDetected : Prop :=
  ∀ (restarts : List (List Txn)) (ty : Vector Byte 4) (payload : List Byte) (s : State) (i j : Nat) (b : Byte),
    s.err = false → j < 8 → (chunkWire ty payload (crc32 (ty.toList ++ payload)))[i]? = some b →
    ∃ t, validate restarts ((chunkWire ty payload (crc32 (ty.toList ++ payload))).set i (b ^^^ BitVec.twoPow 8 j)) s =
      .next (if i < 4 then .ok else .crcMismatch, t)

/-- R149: each chunk's verdict depends on no earlier chunk and on nothing in the block but ERR, and a container is Ok exactly
when every chunk is; in every state once ERR is cleared before a restart. -/
def Obligations.ChunksAreIndependent : Prop :=
  (∀ (restarts : List (List Txn)) (c : List Byte) (s s' : State), s'.err = s.err →
    ∃ v t t', validate restarts c s = .next (v, t) ∧ validate restarts c s' = .next (v, t')) ∧
  (∀ (restarts : List (List Txn)) (chunks : List (List Byte)) (s : State), s.err = false →
    ∃ v t, validateAll restarts chunks s = .next (v, t) ∧
      (v = .ok ↔ ∀ c ∈ chunks, 12 ≤ c.length ∧ storedCrc c = crc32 (spanMessage c))) ∧
  (∀ (restarts : List (List Txn)) (chunks : List (List Byte)) (s : State),
    ∃ v t, validateAll ([clrErrTxn] :: restarts) chunks s = .next (v, t) ∧
      (v = .ok ↔ ∀ c ∈ chunks, 12 ≤ c.length ∧ storedCrc c = crc32 (spanMessage c)))

/-- R66: every transaction written as a BUS line assembles to itself. R66 gives the BUS line to illegal transactions; that a
legal one may be written so too, and the letter case and the blanks, are the model's choices (log entry 10). -/
def Obligations.BusLineAssemblesToItself : Prop := ∀ txn : Txn, assembleLine (busText txn) = some [txn]

/-! ### The signal-level port (informative) -/

/-- R42 and R186 (informative; conventions of log entry 9): an accepted request is answered LATENCY + 1 edges later, as the
transaction model answers it, whatever else is on the pins but `rst`; until then `req_ready` and `rsp_valid` are 0. -/
def Obligations.PortAnswersAfterLatency : Prop :=
  ∀ (p : Pins) (ps : List Pins) (q : PortState), q.inFlight = none → p.rst = false → p.reqValid = true →
    (∀ p' ∈ ps, p'.rst = false) → ps.length = Config.latency q.accepted (pinsTxn p) + 1 →
    (∃ t, issue (pinsTxn p) q.block = .next t ∧
      clockEdges (p :: ps) q = .next { block := t, inFlight := none, accepted := q.accepted + 1 }) ∧
    (∀ n ≤ Config.latency q.accepted (pinsTxn p), ∃ q', clockEdges (p :: ps.take n) q = .next q' ∧
      reqReady q' = false ∧ rspValid q' = false)
end

