-- ==== Sys2Proof/Laws/Crc.lean ====
section
/-! SUPPORT. Laws of the one-bit step and the byte update (spec/40_crc_function.md R82 to R90): both are linear over
GF(2), and both are one-to-one. -/

namespace Sys2Proof.Machine

open Sys2Proof

@[simp] theorem step1_zero : step1 0#32 = 0#32 := by decide

@[simp] theorem steps_zero (n : Nat) : steps n 0#32 = 0#32 := by
  induction n with
  | zero => rfl
  | succ n ih => rw [steps, step1_zero, ih]

/-- Two words that both carry a mask: it cancels. -/
theorem xor_mask_cancel (x y p : Word) : (x ^^^ p) ^^^ (y ^^^ p) = x ^^^ y := by
  rw [BitVec.xor_comm y p, BitVec.xor_assoc, ← BitVec.xor_assoc p p y, BitVec.xor_self, BitVec.zero_xor]

/-- The one-bit step is additive over GF(2). -/
theorem step1_xor (a b : Word) : step1 (a ^^^ b) = step1 a ^^^ step1 b := by
  have hs : (a ^^^ b) >>> 1 = (a >>> 1) ^^^ (b >>> 1) := BitVec.ushiftRight_xor_distrib a b 1
  cases ha : a.getLsbD 0 <;> cases hb : b.getLsbD 0 <;>
    simp only [step1, BitVec.getLsbD_xor, ha, hb, hs, Bool.xor_false, Bool.xor_true, Bool.not_false, Bool.not_true,
      if_true, if_false, Bool.false_eq_true]
  · rw [BitVec.xor_assoc]
  · rw [BitVec.xor_assoc, BitVec.xor_assoc, BitVec.xor_comm polyReflected]
  · rw [xor_mask_cancel]

theorem steps_xor (n : Nat) (a b : Word) : steps n (a ^^^ b) = steps n a ^^^ steps n b := by
  induction n generalizing a b with
  | zero => rfl
  | succ n ih => simp only [steps, step1_xor, ih]

theorem steps_add (m n : Nat) (a : Word) : steps (m + n) a = steps n (steps m a) := by
  induction m generalizing a with
  | zero => simp [steps]
  | succ m ih => rw [Nat.succ_add]; exact ih (step1 a)

/-- Bit 31 of a step is the bit shifted out, because the reflected polynomial has bit 31 set. -/
theorem step1_getLsbD_31 (a : Word) : (step1 a).getLsbD 31 = a.getLsbD 0 := by
  cases h : a.getLsbD 0 <;> simp only [step1, h, if_true, if_false, Bool.false_eq_true] <;> simp [polyReflected]

theorem step1_eq_zero (a : Word) (h : step1 a = 0#32) : a = 0#32 := by
  have h0 : a.getLsbD 0 = false := by rw [← step1_getLsbD_31 a, h]; rfl
  have h1 : a >>> 1 = 0#32 := by simpa only [step1, h0, if_false, Bool.false_eq_true] using h
  apply BitVec.eq_of_getLsbD_eq
  intro i _
  rw [BitVec.getLsbD_zero]
  cases i with
  | zero => exact h0
  | succ i =>
    have hi := congrArg (fun w => BitVec.getLsbD w i) h1
    simpa [BitVec.getLsbD_ushiftRight, Nat.add_comm] using hi

theorem steps_eq_zero (n : Nat) (a : Word) (h : steps n a = 0#32) : a = 0#32 := by
  induction n generalizing a with
  | zero => exact h
  | succ n ih => exact step1_eq_zero a (ih _ h)

/-- The iterated step is one-to-one: a linear map whose kernel is 0. -/
theorem steps_injective (n : Nat) : Function.Injective (steps n) := by
  intro a b h
  have hx : steps n (a ^^^ b) = 0#32 := by rw [steps_xor, h, BitVec.xor_self]
  exact BitVec.xor_eq_zero_iff.mp (steps_eq_zero n _ hx)

/-- The byte update is additive in accumulator and byte together. -/
theorem upd_xor (a a' : Word) (b b' : Byte) : upd (a ^^^ a') (b ^^^ b') = upd a b ^^^ upd a' b' := by
  have h : (a ^^^ a') ^^^ (b ^^^ b').setWidth 32 = (a ^^^ b.setWidth 32) ^^^ (a' ^^^ b'.setWidth 32) := by
    rw [BitVec.setWidth_xor]; ac_rfl
  rw [upd, h, steps_xor]; rfl

end Sys2Proof.Machine
end

