-- ==== Sys2Proof/Laws/Decode.lean ====
section
/-! SUPPORT. The decoder depends on WDATA only through whether a CTRL write's reserved bits are zero; so every fact about
causes is a finite one over 256 descriptors and that one bit. -/

namespace Sys2Proof

/-- R64's chain with the reserved bits of WDATA given as one bit. -/
def causeOfDesc (reservedSet : Bool) (desc : Byte) : Option Cause :=
  match regAt (Txn.offset ⟨desc, 0⟩) with
  | none => some .unmapped
  | some reg =>
    if wrongDirection (Txn.isWrite ⟨desc, 0⟩) reg then some .direction
    else if Txn.sizeCode ⟨desc, 0⟩ = 0b11 then some .size
    else if reg ≠ .data ∧ Txn.sizeCode ⟨desc, 0⟩ ≠ 0b10 then some .size
    else if reg = .ctrl ∧ reservedSet = true then some .rsvdBits
    else none

theorem causeOf_eq (t : Txn) : causeOf t = causeOfDesc (decide (ctrlReserved t.wdata ≠ 0)) t.desc := by
  simp only [causeOf, causeOfDesc, decide_eq_true_eq]
  rfl

/-- A transaction with a cause decodes to its bus error. -/
theorem decode_of_cause {t : Txn} {cause : Cause} (h : causeOf t = some cause) :
    decode t = .busErr cause t.desc t.wdata := by simp only [decode, h]

/-- Only the eight descriptors of R63 are legal. -/
theorem causeOfDesc_none (reservedSet : Bool) (desc : Byte) (h : causeOfDesc reservedSet desc = none) :
    desc ∈ [0xC0, 0x84, 0xA4, 0xC4, 0x48, 0xCC, 0x4C, 0x50] ∧ (desc = 0xC0 → reservedSet = false) := by
  revert desc reservedSet; decide

/-- The reserved bits are zero exactly when WDATA is below 4. -/
theorem ctrlReserved_eq_zero_iff (w : Word) : ctrlReserved w = 0 ↔ w.toNat < 4 := by
  rw [← BitVec.toNat_inj, ctrlReserved, BitVec.extractLsb'_toNat, Nat.shiftRight_eq_div_pow]
  have := w.isLt
  simp only [BitVec.ofNat_eq_ofNat, BitVec.toNat_ofNat]
  omega

end Sys2Proof
end

