-- ==== Sys2Proof/Laws/HostProc.lean ====
section
/-! SUPPORT. What `restarting` can do, said once: an attempt that is not void is the result, and a void one is followed by
the host's transactions and the restart. -/

namespace Sys2Proof.Machine

open Sys2Proof

variable {α : Type} {isVoid : α → Bool} {attempt : State → Host.Outcome (α × State) Fault Refusal}

@[simp] theorem Generated.isVoid_eq_true {g : Generated} : g.isVoid = true ↔ g = .void := by cases g <;> simp [isVoid]

@[simp] theorem Verdict.isVoid_eq_true {v : Verdict} : v.isVoid = true ↔ v = .void := by cases v <;> simp [isVoid]

@[simp] theorem restarting_nil (s : State) : restarting isVoid attempt [] s = attempt s := rfl

/-- An attempt that is not void ends the procedure, whatever restarts the host has left. -/
theorem restarting_done {s t : State} {result : α} (restarts : List (List Txn)) (h : attempt s = .next (result, t))
    (hv : isVoid result = false) : restarting isVoid attempt restarts s = .next (result, t) := by
  cases restarts <;> simp [restarting, h, hv, andThen]

/-- A void attempt is restarted after the transactions the host issues between. -/
theorem restarting_void {s t : State} {result : α} (txns : List Txn) (restarts : List (List Txn))
    (h : attempt s = .next (result, t)) (hv : isVoid result = true) :
    restarting isVoid attempt (txns :: restarts) s = andThen (issueAll txns t) (restarting isVoid attempt restarts) := by
  simp [restarting, h, hv, andThen]

end Sys2Proof.Machine
end

