-- ==== Sys2Proof/Laws/Operands.lean ====
section
/-! SUPPORT. Byte lanes and words from bytes, bit by bit. -/

namespace Sys2Proof.Machine

open Sys2Proof

/-- Bit i of a lane. -/
theorem getLsbD_byteLane (k : Nat) (w : Word) (i : Nat) :
    (byteLane k w).getLsbD i = (decide (i < 8) && w.getLsbD (8 * k + i)) := by
  simp only [byteLane, BitVec.getLsbD_extractLsb']

/-- Bit i of a word put together from bytes. -/
theorem getLsbD_wordOfBytes (b3 b2 b1 b0 : Byte) (i : Nat) :
    (wordOfBytes b3 b2 b1 b0).getLsbD i =
      if i < 8 then b0.getLsbD i
      else if i - 8 < 8 then b1.getLsbD (i - 8)
      else if i - 8 - 8 < 8 then b2.getLsbD (i - 8 - 8)
      else b3.getLsbD (i - 8 - 8 - 8) := by
  have h3 := BitVec.getLsbD_append (x := b3 ++ b2 ++ b1) (y := b0) (i := i)
  have h2 := BitVec.getLsbD_append (x := b3 ++ b2) (y := b1) (i := i - 8)
  have h1 := BitVec.getLsbD_append (x := b3) (y := b2) (i := i - 8 - 8)
  rw [h1] at h2
  rw [h2] at h3
  exact h3

/-- The lanes of a word are the bytes it was put together from. -/
theorem laneBytes_wordOfBytes (b3 b2 b1 b0 : Byte) : laneBytes 4 (wordOfBytes b3 b2 b1 b0) = [b3, b2, b1, b0] := by
  simp only [laneBytes, List.cons.injEq, and_true]
  refine ⟨?_, ?_, ?_, ?_⟩ <;> apply BitVec.eq_of_getLsbD_eq <;> intro i hi <;>
    rw [getLsbD_byteLane, getLsbD_wordOfBytes] <;> simp [hi]
  · have h1 : ¬ 24 + i < 8 := by omega
    have h2 : ¬ 24 + i - 8 < 8 := by omega
    have h3 : ¬ 24 + i - 8 - 8 < 8 := by omega
    simp [h1, h2, h3, show 24 + i - 8 - 8 - 8 = i by omega, hi]
  · have h1 : ¬ 16 + i < 8 := by omega
    have h2 : ¬ 16 + i - 8 < 8 := by omega
    simp [h1, h2, show 16 + i - 8 - 8 = i by omega, hi]

end Sys2Proof.Machine
end

