-- ==== Sys2Proof/Laws/State.lean ====
section
/-! SUPPORT. One lemma per field per update, so that no proof unfolds a record update. -/

namespace Sys2Proof.Machine

open Sys2Proof

@[simp] theorem State.acc_withAcc (s : State) (v : Word) : (s.withAcc v).acc = v := rfl
@[simp] theorem State.expect_withAcc (s : State) (v : Word) : (s.withAcc v).expect = s.expect := rfl
@[simp] theorem State.ok_withAcc (s : State) (v : Word) : (s.withAcc v).ok = s.ok := rfl
@[simp] theorem State.mismatch_withAcc (s : State) (v : Word) : (s.withAcc v).mismatch = s.mismatch := rfl
@[simp] theorem State.err_withAcc (s : State) (v : Word) : (s.withAcc v).err = s.err := rfl
@[simp] theorem State.errCause_withAcc (s : State) (v : Word) : (s.withAcc v).errCause = s.errCause := rfl
@[simp] theorem State.inputs_withAcc (s : State) (v : Word) : (s.withAcc v).inputs = s.inputs := rfl
@[simp] theorem State.response_withAcc (s : State) (v : Word) : (s.withAcc v).response = s.response := rfl

@[simp] theorem State.acc_withExpect (s : State) (v : Word) : (s.withExpect v).acc = s.acc := rfl
@[simp] theorem State.expect_withExpect (s : State) (v : Word) : (s.withExpect v).expect = v := rfl
@[simp] theorem State.ok_withExpect (s : State) (v : Word) : (s.withExpect v).ok = s.ok := rfl
@[simp] theorem State.mismatch_withExpect (s : State) (v : Word) : (s.withExpect v).mismatch = s.mismatch := rfl
@[simp] theorem State.err_withExpect (s : State) (v : Word) : (s.withExpect v).err = s.err := rfl
@[simp] theorem State.errCause_withExpect (s : State) (v : Word) : (s.withExpect v).errCause = s.errCause := rfl
@[simp] theorem State.inputs_withExpect (s : State) (v : Word) : (s.withExpect v).inputs = s.inputs := rfl
@[simp] theorem State.response_withExpect (s : State) (v : Word) : (s.withExpect v).response = s.response := rfl

@[simp] theorem State.acc_withCompare (s : State) (ok mismatch : Bool) : (s.withCompare ok mismatch).acc = s.acc := rfl
@[simp] theorem State.expect_withCompare (s : State) (ok mismatch : Bool) : (s.withCompare ok mismatch).expect = s.expect := rfl
@[simp] theorem State.ok_withCompare (s : State) (ok mismatch : Bool) : (s.withCompare ok mismatch).ok = ok := rfl
@[simp] theorem State.mismatch_withCompare (s : State) (ok mismatch : Bool) : (s.withCompare ok mismatch).mismatch = mismatch := rfl
@[simp] theorem State.err_withCompare (s : State) (ok mismatch : Bool) : (s.withCompare ok mismatch).err = s.err := rfl
@[simp] theorem State.errCause_withCompare (s : State) (ok mismatch : Bool) : (s.withCompare ok mismatch).errCause = s.errCause := rfl
@[simp] theorem State.inputs_withCompare (s : State) (ok mismatch : Bool) : (s.withCompare ok mismatch).inputs = s.inputs := rfl
@[simp] theorem State.response_withCompare (s : State) (ok mismatch : Bool) : (s.withCompare ok mismatch).response = s.response := rfl

@[simp] theorem State.acc_withError (s : State) (err : Bool) (errCause : BitVec 3) : (s.withError err errCause).acc = s.acc := rfl
@[simp] theorem State.expect_withError (s : State) (err : Bool) (errCause : BitVec 3) : (s.withError err errCause).expect = s.expect := rfl
@[simp] theorem State.ok_withError (s : State) (err : Bool) (errCause : BitVec 3) : (s.withError err errCause).ok = s.ok := rfl
@[simp] theorem State.mismatch_withError (s : State) (err : Bool) (errCause : BitVec 3) : (s.withError err errCause).mismatch = s.mismatch := rfl
@[simp] theorem State.err_withError (s : State) (err : Bool) (errCause : BitVec 3) : (s.withError err errCause).err = err := rfl
@[simp] theorem State.errCause_withError (s : State) (err : Bool) (errCause : BitVec 3) : (s.withError err errCause).errCause = errCause := rfl
@[simp] theorem State.inputs_withError (s : State) (err : Bool) (errCause : BitVec 3) : (s.withError err errCause).inputs = s.inputs := rfl
@[simp] theorem State.response_withError (s : State) (err : Bool) (errCause : BitVec 3) : (s.withError err errCause).response = s.response := rfl

@[simp] theorem State.acc_withInputs (s : State) (inputs : List HostMove) : (s.withInputs inputs).acc = s.acc := rfl
@[simp] theorem State.expect_withInputs (s : State) (inputs : List HostMove) : (s.withInputs inputs).expect = s.expect := rfl
@[simp] theorem State.ok_withInputs (s : State) (inputs : List HostMove) : (s.withInputs inputs).ok = s.ok := rfl
@[simp] theorem State.mismatch_withInputs (s : State) (inputs : List HostMove) : (s.withInputs inputs).mismatch = s.mismatch := rfl
@[simp] theorem State.err_withInputs (s : State) (inputs : List HostMove) : (s.withInputs inputs).err = s.err := rfl
@[simp] theorem State.errCause_withInputs (s : State) (inputs : List HostMove) : (s.withInputs inputs).errCause = s.errCause := rfl
@[simp] theorem State.inputs_withInputs (s : State) (inputs : List HostMove) : (s.withInputs inputs).inputs = inputs := rfl
@[simp] theorem State.response_withInputs (s : State) (inputs : List HostMove) : (s.withInputs inputs).response = s.response := rfl

@[simp] theorem State.acc_withResponse (s : State) (response : Option Response) : (s.withResponse response).acc = s.acc := rfl
@[simp] theorem State.expect_withResponse (s : State) (response : Option Response) : (s.withResponse response).expect = s.expect := rfl
@[simp] theorem State.ok_withResponse (s : State) (response : Option Response) : (s.withResponse response).ok = s.ok := rfl
@[simp] theorem State.mismatch_withResponse (s : State) (response : Option Response) : (s.withResponse response).mismatch = s.mismatch := rfl
@[simp] theorem State.err_withResponse (s : State) (response : Option Response) : (s.withResponse response).err = s.err := rfl
@[simp] theorem State.errCause_withResponse (s : State) (response : Option Response) : (s.withResponse response).errCause = s.errCause := rfl
@[simp] theorem State.inputs_withResponse (s : State) (response : Option Response) : (s.withResponse response).inputs = s.inputs := rfl
@[simp] theorem State.response_withResponse (s : State) (response : Option Response) : (s.withResponse response).response = response := rfl

@[simp] theorem State.withResponse_withResponse (s : State) (r r' : Option Response) :
    (s.withResponse r).withResponse r' = s.withResponse r' := rfl
@[simp] theorem State.withInputs_withInputs (s : State) (l l' : List HostMove) :
    (s.withInputs l).withInputs l' = s.withInputs l' := rfl
@[simp] theorem State.withInputs_self (s : State) : s.withInputs s.inputs = s := rfl
theorem State.withInputs_eq (s : State) (l : List HostMove) : s.withInputs l = { s with inputs := l } := rfl
theorem State.withResponse_eq (s : State) (r : Option Response) : s.withResponse r = { s with response := r } := rfl

end Sys2Proof.Machine
end

