-- ==== Sys2Proof/Laws/Ops.lean ====
section
/-! SUPPORT. What each shared operation can do, said once: the operations of Machine/Ops.lean, the meanings (`exec` always
answers `.next (execNext i s)`), and the step (`step_cases`). -/

namespace Sys2Proof.Machine

open Sys2Proof

/-! ### Shared operations -/

/-- `startMessage` writes ACC, OK and MISMATCH and nothing else. -/
theorem State.startMessage_eq (s : State) : s.startMessage = { s with acc := 0xFFFFFFFF, ok := false, mismatch := false } :=
  rfl

/-- `feed` writes ACC, OK and MISMATCH and nothing else. -/
theorem State.feed_eq (bytes : List Byte) (s : State) :
    s.feed bytes = { s with acc := absorb s.acc bytes, ok := false, mismatch := false } := rfl

/-- `checkExpect` writes EXPECT, OK and MISMATCH and nothing else; exactly one flag is set. -/
theorem State.checkExpect_eq (v : Word) (s : State) :
    s.checkExpect v =
      { s with expect := v, ok := decide (v = s.acc ^^^ 0xFFFFFFFF), mismatch := decide (v ≠ s.acc ^^^ 0xFFFFFFFF) } := rfl

/-- `recordError` writes ERR and ERR_CAUSE and nothing else; a cause on record stays. -/
theorem State.recordError_eq (cause : Cause) (s : State) :
    s.recordError cause = { s with err := true, errCause := if s.err then s.errCause else causeCode cause } := by
  cases h : s.err <;> simp [State.recordError, State.withError, h]
  · rw [← h]

/-- `clearError` writes ERR and ERR_CAUSE and nothing else. -/
theorem State.clearError_eq (s : State) : s.clearError = { s with err := false, errCause := 0 } := rfl

/-- `assertReset` gives the reset registers and keeps the moves still presented. -/
theorem State.assertReset_eq (inFlight : Option Txn) (s : State) :
    s.assertReset inFlight = { State.reset with inputs := s.inputs } := rfl

/-- `takeMove` takes the oldest move and changes nothing else. -/
theorem State.takeMove_cons {s : State} {move : HostMove} {rest : List HostMove} (h : s.inputs = move :: rest) :
    s.takeMove = some (move, s.withInputs rest) := by simp [State.takeMove, h]

theorem State.takeMove_nil {s : State} (h : s.inputs = []) : s.takeMove = none := by simp [State.takeMove, h]

theorem causeCode_ne_zero (cause : Cause) : causeCode cause ≠ 0 := by cases cause <;> decide

theorem causeCode_le_four (cause : Cause) : (causeCode cause).toNat ≤ 4 := by cases cause <;> decide

/-! ### The meanings -/

/-- The next state of each instruction: its whole effect, everything else as in `s`. -/
def execNext (i : Instr) (s : State) : State :=
  match i with
  | .ctrlWr w =>
    { s with
      acc := if w.getLsbD 0 then 0xFFFFFFFF else s.acc
      ok := if w.getLsbD 0 then false else s.ok
      mismatch := if w.getLsbD 0 then false else s.mismatch
      err := if w.getLsbD 1 then false else s.err
      errCause := if w.getLsbD 1 then 0 else s.errCause
      response := some (.okay 0) }
  | .dataWr8 w => (s.feed (laneBytes 1 w)).withResponse (some (.okay 0))
  | .dataWr16 w => (s.feed (laneBytes 2 w)).withResponse (some (.okay 0))
  | .dataWr32 w => (s.feed (laneBytes 4 w)).withResponse (some (.okay 0))
  | .resultRd _ => s.withResponse (some (.okay s.result))
  | .expectWr v => (s.checkExpect v).withResponse (some (.okay 0))
  | .expectRd _ => s.withResponse (some (.okay s.expect))
  | .statusRd _ => s.withResponse (some (.okay s.statusWord))
  | .busErr cause _ _ => (s.recordError cause).withResponse (some .error)

/-- Every instruction completes, in every state, with the effect `execNext` says. -/
theorem exec_eq (i : Instr) (s : State) : exec i s = .next (execNext i s) := by
  cases i with
  | ctrlWr w =>
    cases h0 : w.getLsbD 0 <;> cases h1 : w.getLsbD 1 <;>
      simp only [exec, execNext, execCtrlWr, ctrlInit, ctrlClrErr, h0, h1] <;> rfl
  | dataWr8 => rfl
  | dataWr16 => rfl
  | dataWr32 => rfl
  | resultRd => rfl
  | expectWr => rfl
  | expectRd => rfl
  | statusRd => rfl
  | busErr => rfl

/-- No instruction takes a move of the host: that is the step's. -/
@[simp] theorem execNext_inputs (i : Instr) (s : State) : (execNext i s).inputs = s.inputs := by
  cases i <;> simp [execNext, State.feed_eq, State.checkExpect_eq, State.recordError_eq]

/-! ### The step -/

theorem step_request {s : State} {txn : Txn} {rest : List HostMove} (h : s.inputs = .request txn :: rest) :
    step s = .next (execNext (decode txn) (s.withInputs rest)) := by
  rw [← exec_eq]; simp [step, State.takeMove_cons h]

theorem step_reset {s : State} {inFlight : Option Txn} {rest : List HostMove} (h : s.inputs = .reset inFlight :: rest) :
    step s = .next { State.reset with inputs := rest } := by
  simp [step, State.takeMove_cons h, State.assertReset_eq]

theorem step_idle {s : State} (h : s.inputs = []) : step s = .next { s with response := none } := by
  simp [step, State.takeMove_nil h, State.idle, State.withResponse_eq]

/-- All a step can do. -/
theorem step_cases {s t : State} (h : step s = .next t) :
    (s.inputs = [] ∧ t = { s with response := none }) ∨
    (∃ inFlight rest, s.inputs = .reset inFlight :: rest ∧ t = { State.reset with inputs := rest }) ∨
    (∃ txn rest, s.inputs = .request txn :: rest ∧ t = execNext (decode txn) (s.withInputs rest)) := by
  obtain ⟨inputs, hi⟩ : ∃ inputs, s.inputs = inputs := ⟨_, rfl⟩
  cases inputs with
  | nil => rw [step_idle hi] at h; exact .inl ⟨hi, by cases h; rfl⟩
  | cons move rest =>
    cases move with
    | reset inFlight => rw [step_reset hi] at h; exact .inr (.inl ⟨inFlight, rest, hi, by cases h; rfl⟩)
    | request txn => rw [step_request hi] at h; exact .inr (.inr ⟨txn, rest, hi, by cases h; rfl⟩)

/-! ### Sequences -/

@[simp] theorem andThen_next {α β : Type} (a : α) (f : α → Host.Outcome β Fault Refusal) : andThen (.next a) f = f a := rfl

/-- Issuing a transaction is executing what it decodes to; the moves presented stay. -/
theorem issue_eq (txn : Txn) (s : State) : issue txn s = .next (execNext (decode txn) s) := by
  rw [issue, step_request (txn := txn) (rest := s.inputs) rfl]; simp

end Sys2Proof.Machine
end

