-- ==== Sys2Proof/Laws/PerInstr.lean ====
section
/-! SUPPORT. The family EncodeDescriptor: the descriptor and WDATA of each instruction's transaction, as the opcode map
spec/30_encoding.md R63 lists them; a bus error's transaction is the one it carries. -/

namespace Sys2Proof.Laws.EncodeDescriptor

open Sys2Proof

/-- R63's columns descriptor and operand. -/
def row : Instr → Txn
  | .ctrlWr w => ⟨0xC0, w⟩
  | .dataWr8 w => ⟨0x84, w⟩
  | .dataWr16 w => ⟨0xA4, w⟩
  | .dataWr32 w => ⟨0xC4, w⟩
  | .resultRd w => ⟨0x48, w⟩
  | .expectWr w => ⟨0xCC, w⟩
  | .expectRd w => ⟨0x4C, w⟩
  | .statusRd w => ⟨0x50, w⟩
  | .busErr _ desc w => ⟨desc, w⟩

def Statement (i : Instr) : Prop := encode i = row i

theorem ctrlWr (w : Word) : Statement (.ctrlWr w) := congrArg (Txn.mk · w) (by decide)
theorem dataWr8 (w : Word) : Statement (.dataWr8 w) := congrArg (Txn.mk · w) (by decide)
theorem dataWr16 (w : Word) : Statement (.dataWr16 w) := congrArg (Txn.mk · w) (by decide)
theorem dataWr32 (w : Word) : Statement (.dataWr32 w) := congrArg (Txn.mk · w) (by decide)
theorem resultRd (w : Word) : Statement (.resultRd w) := congrArg (Txn.mk · w) (by decide)
theorem expectWr (w : Word) : Statement (.expectWr w) := congrArg (Txn.mk · w) (by decide)
theorem expectRd (w : Word) : Statement (.expectRd w) := congrArg (Txn.mk · w) (by decide)
theorem statusRd (w : Word) : Statement (.statusRd w) := congrArg (Txn.mk · w) (by decide)
theorem busErr (cause : Cause) (desc : Byte) (w : Word) : Statement (.busErr cause desc w) := rfl

end Sys2Proof.Laws.EncodeDescriptor
end

