-- ==== Sys2Proof/Tests/Slice0.lean ====
section
/-! SUPPORT. Tests. Expected values are those of spec/95_test_vectors.md (named in each comment) or of the rule named. -/

namespace Sys2Proof.Machine.Tests

open Sys2Proof Sys2Proof.Machine

/-! ### Helpers -/

/-- The next state, where there is one. -/
def after {α : Type} : Host.Outcome α Fault Refusal → Option α
  | .next a => some a
  | .fault _ => none
  | .refused _ => none

/-- The registers of a test vector's state column. -/
def regs (acc expect : Word) (ok mismatch err : Bool) (errCause : BitVec 3) : State :=
  { State.reset with acc := acc, expect := expect, ok := ok, mismatch := mismatch, err := err, errCause := errCause }

/-- A transaction issued in a state. -/
def run (desc : Byte) (wdata : Word) (s : State) : Option State := after (issue ⟨desc, wdata⟩ s)

/-- An end state with its response. -/
def answered (r : Response) (s : State) : Option State := some (s.withResponse (some r))

/-! ### WellFormed smoke: each check refuses an ill-formed term -/

theorem test_wf_ctrlWr_reserved : (Instr.ctrlWr 0x00000004).wf = false := by decide
theorem test_wf_busErr_unmapped : (Instr.busErr .unmapped 0x04 0).wf = false := by decide
theorem test_wf_busErr_direction : (Instr.busErr .direction 0x84 0).wf = false := by decide
theorem test_wf_busErr_size : (Instr.busErr .size 0x04 0).wf = false := by decide
theorem test_wf_busErr_rsvdBits : (Instr.busErr .rsvdBits 0xC0 3).wf = false := by decide

/-! ### Decoding: words written out from R63, and the error descriptors of R162 -/

theorem test_decode_ctrlWr : decode ⟨0b11000000, 0x00000003⟩ = .ctrlWr 3 := by decide
theorem test_decode_dataWr8 : decode ⟨0b10000100, 0xABCDEF52⟩ = .dataWr8 0xABCDEF52 := by decide
theorem test_decode_dataWr16 : decode ⟨0b10100100, 0x00003132⟩ = .dataWr16 0x3132 := by decide
theorem test_decode_dataWr32 : decode ⟨0b11000100, 0x49454E44⟩ = .dataWr32 0x49454E44 := by decide
theorem test_decode_resultRd : decode ⟨0b01001000, 0⟩ = .resultRd 0 := by decide
theorem test_decode_expectWr : decode ⟨0b11001100, 0xABD1D84E⟩ = .expectWr 0xABD1D84E := by decide
theorem test_decode_expectRd : decode ⟨0b01001100, 0⟩ = .expectRd 0 := by decide
theorem test_decode_statusRd : decode ⟨0b01010000, 0⟩ = .statusRd 0 := by decide
theorem test_decode_unmapped : decode ⟨0b01111111, 0⟩ = .busErr .unmapped 0x7F 0 := by decide
theorem test_decode_direction : decode ⟨0b00000100, 0⟩ = .busErr .direction 0x04 0 := by decide
theorem test_decode_size : decode ⟨0b10000000, 0xFFFFFFFF⟩ = .busErr .size 0x80 0xFFFFFFFF := by decide
theorem test_decode_rsvdBits : decode ⟨0b11000000, 0x00000006⟩ = .busErr .rsvdBits 0xC0 6 := by decide

/-- R63's descriptor column, from the encoder. -/
theorem test_encode_descriptors :
    ([.ctrlWr 0, .dataWr8 0, .dataWr16 0, .dataWr32 0, .resultRd 0, .expectWr 0, .expectRd 0, .statusRd 0].map
      (fun i => (encode i).desc)) = [0xC0, 0x84, 0xA4, 0xC4, 0x48, 0xCC, 0x4C, 0x50] := by decide

/-- The table's row of DATA_WR16, with WDATA of zeros and then with WDATA from bit 8 up. -/
theorem test_decodeTableWord : decodeTableWord 8 0xA4 = some (.dataWr16 0) ∧
    decodeTableWord 40 0x3132A4 = some (.dataWr16 0x3132) ∧ decodeTableWord 7 0x24 = none := by decide

/-- The first step after reset runs the word placed. -/
theorem test_withFetchWord : after (step (State.reset.withFetchWord 8 0x48)) = answered (.okay 0) State.reset := by decide

/-! ### The CRC function (V10, V30, V11) -/

theorem test_step1 : step1 0x00000001 = 0xEDB88320 ∧ step1 0x00000002 = 0x00000001 ∧ step1 0x80000000 = 0x40000000 ∧
    step1 0xFFFFFFFF = 0x92477CDF ∧ step1 0xEDB88320 = 0x76DC4190 := by decide
theorem test_upd : upd 0x12345678 0x9A = 0x4E16B702 ∧ upd 0xDEADBEEF 0x00 = 0x306B5257 ∧
    upd 0x00000000 0x80 = 0xEDB88320 := by decide
theorem test_tableEntry : tableEntry 0x02 = 0xEE0E612C ∧ tableEntry 0x9B = 0x67DD4ACC ∧ tableEntry 0xFF = 0x2D02EF8D := by
  decide
/-- V11: "123456789". -/
theorem test_crc32_check_value :
    crc32 [0x31, 0x32, 0x33, 0x34, 0x35, 0x36, 0x37, 0x38, 0x39] = 0xCBF43926 := by decide +kernel
/-- The same value by the MSB-first form of R81. -/
theorem test_crc32Msb_check_value :
    crc32Msb [0x31, 0x32, 0x33, 0x34, 0x35, 0x36, 0x37, 0x38, 0x39] = 0xCBF43926 := by decide +kernel

/-! ### The vectors of each family -/

/-- CTRL_WR, first table, row 3: both fields act, EXPECT stays. -/
theorem test_ctrlWr_both : run 0xC0 3 (regs 0x2B7BF6C3 0x11111111 true false true 2) =
    answered (.okay 0) (regs 0xFFFFFFFF 0x11111111 false false false 0) := by decide
/-- CTRL_WR, second table, row 1: CLR_ERR does not act in a refused write. -/
theorem test_ctrlWr_reserved : run 0xC0 6 (regs 0x2B7BF6C3 0x11111111 true false false 0) =
    answered .error (regs 0x2B7BF6C3 0x11111111 true false true 4) := by decide
/-- DATA row 4: the bits above the byte are ignored. -/
theorem test_dataWr8_upper_ignored : run 0x84 0xABCDEF52 State.reset =
    answered (.okay 0) (regs 0xA89820AA 0 false false false 0) := by decide +kernel
/-- DATA, last table: a DATA write clears OK. -/
theorem test_dataWr8_clears_ok : run 0x84 0 (regs 0xCADBBE3D 0x352441C2 true false false 0) =
    answered (.okay 0) (regs 0x58A297AF 0x352441C2 false false false 0) := by decide +kernel
/-- DATA row 6. -/
theorem test_dataWr16_upper_ignored : run 0xA4 0xFFFF3132 State.reset =
    answered (.okay 0) (regs 0xB0ACBB32 0 false false false 0) := by decide +kernel
/-- DATA row 9: "IEND", most significant byte first. -/
theorem test_dataWr32_IEND : run 0xC4 0x49454E44 State.reset =
    answered (.okay 0) (regs 0x51BD9F7D 0 false false false 0) := by decide +kernel
/-- After the V1 message, row 1. -/
theorem test_resultRd : run 0x48 0 (regs 0x542E27B1 0 false false false 0) =
    answered (.okay 0xABD1D84E) (regs 0x542E27B1 0 false false false 0) := by decide
/-- After the V1 message, rows 2 and 4. -/
theorem test_expectWr_match : run 0xCC 0xABD1D84E (regs 0x542E27B1 0 false false false 0) =
    answered (.okay 0) (regs 0x542E27B1 0xABD1D84E true false false 0) := by decide
theorem test_expectWr_mismatch : run 0xCC 0x4ED8D1AB (regs 0x542E27B1 0 false false false 0) =
    answered (.okay 0) (regs 0x542E27B1 0x4ED8D1AB false true false 0) := by decide
/-- P4, line 10. -/
theorem test_expectRd : run 0x4C 0 (regs 0x58A297AF 0x352441C2 false false false 0) =
    answered (.okay 0x352441C2) (regs 0x58A297AF 0x352441C2 false false false 0) := by decide
/-- R123's example: after a mismatch and an UNMAPPED error, 0x00000016. -/
theorem test_statusRd : run 0x50 0 (regs 0xFFFFFFFF 1 false true true 1) =
    answered (.okay 0x00000016) (regs 0xFFFFFFFF 1 false true true 1) := by decide
/-- P3, line 3: a DATA read absorbs nothing; STATUS is then 0x24. -/
theorem test_busErr_first : run 0x44 0 (regs 0x77B79C2D 0 false false false 0) =
    answered .error (regs 0x77B79C2D 0 false false true 2) ∧ (regs 0x77B79C2D 0 false false true 2).statusWord = 0x24 := by
  decide
/-- Sticky-first, row 1. -/
theorem test_busErr_sticky : run 0x10 0 (regs 0xFFFFFFFF 0 false true true 1) =
    answered .error (regs 0xFFFFFFFF 0 false true true 1) := by decide

/-- R180, R181: reset from any registers, a transaction in flight dropped; the later move is still to come. -/
theorem test_reset_move : after (step ((regs 0x2B7BF6C3 1 true false true 2).withInputs [.reset (some ⟨0xC0, 1⟩), .request ⟨0x48, 0⟩])) =
    some (State.reset.withInputs [.request ⟨0x48, 0⟩]) := by decide

/-! ### Host procedures and the assembler -/

/-- The IEND generator of the host-procedure vectors. -/
theorem test_generate_IEND : (after (generate [] #v[0x49, 0x45, 0x4E, 0x44] [] State.reset)).map Prod.fst =
    some (.crc 0xAE426082) := by decide +kernel
/-- R142: with a bus error on record the computation is void; after a CLR_ERR its restart gives the CRC. -/
theorem test_generate_restart :
    (after (generate [] #v[0x49, 0x45, 0x4E, 0x44] [] (regs 0 0 false false true 2))).map Prod.fst = some .void ∧
    (after (generate [[clrErrTxn]] #v[0x49, 0x45, 0x4E, 0x44] [] (regs 0 0 false false true 2))).map Prod.fst =
      some (.crc 0xAE426082) := by decide +kernel
/-- Its chunk on the wire. -/
theorem test_chunkWire_IEND : chunkWire #v[0x49, 0x45, 0x4E, 0x44] [] 0xAE426082 =
    [0, 0, 0, 0, 0x49, 0x45, 0x4E, 0x44, 0xAE, 0x42, 0x60, 0x82] := by decide
/-- The validator on that chunk, and with one bit of the stored CRC flipped (R148). -/
theorem test_validate_IEND :
    (after (validate [] [0, 0, 0, 0, 0x49, 0x45, 0x4E, 0x44, 0xAE, 0x42, 0x60, 0x82] State.reset)).map Prod.fst = some .ok ∧
    (after (validate [] [0, 0, 0, 0, 0x49, 0x45, 0x4E, 0x44, 0xAE, 0x42, 0x60, 0x83] State.reset)).map Prod.fst =
      some .crcMismatch := by decide +kernel
/-- R67: FEED of five bytes is a DATA_WR32 and a DATA_WR8. -/
theorem test_feed_five : feedTxns [0x68, 0x65, 0x6C, 0x6C, 0x6F] = [⟨0xC4, 0x68656C6C⟩, ⟨0x84, 0x6F⟩] := by decide
/-- R146: "IEND" loaded little-endian is 0x444E4549. -/
theorem test_loadLittleEndian_IEND : loadLittleEndian 0x49 0x45 0x4E 0x44 = 0x444E4549 ∧
    byteReverse 0x444E4549 = 0x49454E44 := by decide
/-- R66's example line, `DATA_WR8 'R'` with a comment. -/
theorem test_assemble_char : assembleLine
    ['D', 'A', 'T', 'A', '_', 'W', 'R', '8', ' ', Char.ofNat 39, 'R', Char.ofNat 39, ' ', ';', ' ', 'x'] = some [⟨0x84, 0x52⟩] := by decide
/-- P5, line 3: `BUS r SZ=10 OFF=0x14`. -/
theorem test_assemble_bus : assembleLine
    ['B', 'U', 'S', ' ', 'r', ' ', 'S', 'Z', '=', '1', '0', ' ', 'O', 'F', 'F', '=', '0', 'x', '1', '4'] =
    some [⟨0x54, 0⟩] := by decide
/-- "The operand must fit": 256 does not fit DATA_WR8. -/
theorem test_assemble_too_wide : assembleLine
    ['D', 'A', 'T', 'A', '_', 'W', 'R', '8', ' ', '2', '5', '6'] = none := by decide
/-- `FEED "ab"`. -/
theorem test_assemble_feed : assembleLine ['F', 'E', 'E', 'D', ' ', Char.ofNat 34, 'a', 'b', Char.ofNat 34] = some [⟨0xA4, 0x6162⟩] := by decide

end Sys2Proof.Machine.Tests
end

