-- ==== Sys2Proof/Tests/Witnesses.lean ====
section
/-! SUPPORT. For every statement of Certificates/Slice0/Obligations.lean that has hypotheses, a concrete input that meets
all of them together, one for each clause, at the boundary values of the clause's range. -/

namespace Sys2Proof.Machine.Tests

open Sys2Proof Sys2Proof.Machine

/-- A state in which every register differs from its reset value: a matched compare, then a DIRECTION error. -/
def busy : State := regs 0x2B7BF6C3 0xD484093C true false true 2

/-- A transaction of each kind presented to `busy`. -/
def presented (move : HostMove) : State := busy.withInputs [move, .request ⟨0x50, 0⟩]

/-! ### The step -/

theorem witness_StepRunsDecodedTransaction :
    (presented (.request ⟨0xC4, 0x49454E44⟩)).inputs = .request ⟨0xC4, 0x49454E44⟩ :: [.request ⟨0x50, 0⟩] := by decide

theorem witness_ResetDropsTransactionInFlight :
    (presented (.reset (some ⟨0xC0, 1⟩))).inputs = .reset (some ⟨0xC0, 1⟩) :: [.request ⟨0x50, 0⟩] ∧
    (presented (.reset none)).inputs = .reset none :: [.request ⟨0x50, 0⟩] ∧
    (Pins.mk true true true 0b10 0x00 1).rst = true := by decide

theorem witness_IdleStepKeepsEveryRegister : busy.inputs = [] := by decide

/-- The two sides of the cause, and a write among the legal ones; a read is legal too. -/
theorem witness_EveryTransactionIsAnswered :
    causeOf ⟨0x44, 0⟩ = some .direction ∧ (causeOf ⟨0xC0, 3⟩ = none ∧ Txn.isWrite ⟨0xC0, 3⟩ = true) ∧
    (causeOf ⟨0x48, 0⟩ = none ∧ Txn.isWrite ⟨0x48, 0⟩ = false) := by decide

/-! ### Decoding -/

theorem witness_DescriptorFields : (0x7F : Byte).getLsbD 7 = false ∧ (0x00 : Byte).getLsbD 7 = false := by decide

/-- SZ = 11 at an unmapped offset (0x1F), in the wrong direction (both ways) and at DATA: the three branches. -/
theorem witness_SizeCodes :
    Txn.sizeCode ⟨0xFF, 0⟩ = 0b11 ∧ Txn.sizeCode ⟨0x60, 0⟩ = 0b11 ∧ Txn.sizeCode ⟨0xF0, 0⟩ = 0b11 ∧
    Txn.sizeCode ⟨0xE4, 0⟩ = 0b11 ∧ decode ⟨0xFF, 0⟩ = .busErr .unmapped 0xFF 0 ∧
    decode ⟨0x60, 0⟩ = .busErr .direction 0x60 0 ∧ decode ⟨0xF0, 0⟩ = .busErr .direction 0xF0 0 ∧
    decode ⟨0xE4, 0⟩ = .busErr .size 0xE4 0 := by decide

theorem witness_OperandAssembly :
    Instr.resultRd 1 ∈ [.resultRd 1, .expectRd 1, .statusRd 1] ∧ Instr.statusRd 1 ∈ [.resultRd 1, .expectRd 1, .statusRd 1] ∧
    (3 : Word).toNat < 4 ∧ ¬(4 : Word).toNat < 4 := by decide

theorem witness_EightLegalDescriptors :
    (3 : Word).extractLsb' 2 30 = 0 ∧ (4 : Word).extractLsb' 2 30 ≠ 0 ∧ (0x80000000 : Word).extractLsb' 2 30 ≠ 0 ∧
    (0xC1 : Byte) ∉ [0xC0, 0x84, 0xA4, 0xC4, 0x48, 0xCC, 0x4C, 0x50] ∧
    (0x00 : Byte) ∉ [0xC0, 0x84, 0xA4, 0xC4, 0x48, 0xCC, 0x4C, 0x50] := by decide

theorem witness_AccessNamesRegisterExactly :
    (Txn.offset ⟨0x1F, 0⟩).toNat ∉ [0x00, 0x04, 0x08, 0x0C, 0x10] ∧ decode ⟨0x01, 0⟩ = .busErr .unmapped 0x01 0 ∧
    causeOf ⟨0x50, 0⟩ = none ∧ causeOf ⟨0x84, 0⟩ = none := by decide

theorem witness_BusErrorPriority :
    exec (.busErr .rsvdBits 0xC0 4) busy = .next (busy.withResponse (some .error)) ∧ busy.err = true ∧
    exec (.busErr .unmapped 0x1F 0) State.reset =
      .next { State.reset with err := true, errCause := 1, response := some .error } ∧ State.reset.err = false := by
  refine ⟨rfl, by decide, rfl, by decide⟩

theorem witness_CausesMatchDescriptorLists :
    causeOf ⟨0x14, 0⟩ = some .unmapped ∧ causeOf ⟨0x90, 0⟩ = some .direction ∧ causeOf ⟨0x70, 0⟩ = some .size ∧
    causeOf ⟨0xC0, 4⟩ = some .rsvdBits ∧ causeOf ⟨0xC0, 3⟩ = none := by decide

/-- A CTRL_WR at the greatest legal WDATA, a bus error of each cause, and a row that is always well formed. -/
theorem witness_DecodeAfterEncode :
    (Instr.ctrlWr 3).wf = true ∧ (Instr.dataWr16 0xFFFFFFFF).wf = true ∧ (Instr.busErr .unmapped 0xFF 1).wf = true ∧
    (Instr.busErr .direction 0x00 1).wf = true ∧ (Instr.busErr .size 0x70 1).wf = true ∧
    (Instr.busErr .rsvdBits 0xC0 4).wf = true := by decide

/-- The first address above the window; below it there is one only where CRC_BASE is not 0, which the spec leaves open. -/
theorem witness_WindowRouting :
    let address := Config.crcBase + 32
    address < Config.crcBase ∨ Config.crcBase + 32 ≤ address := .inr (Nat.le_refl _)

/-- Two values that differ above the size written. -/
theorem witness_BusPrimitives :
    (0x152 : Word).toNat % 2 ^ (8 * sizeBytes .one) = (0x052 : Word).toNat % 2 ^ (8 * sizeBytes .one) ∧
    (0xFFFF3132 : Word).toNat % 2 ^ (8 * sizeBytes .two) = (0x3132 : Word).toNat % 2 ^ (8 * sizeBytes .two) ∧
    (0x3132 : Word).toNat % 2 ^ (8 * sizeBytes .four) = (0x3132 : Word).toNat % 2 ^ (8 * sizeBytes .four) := by decide

/-! ### The instructions -/

theorem witness_CtrlWrResult :
    (3 : Word).extractLsb' 2 30 = 0 ∧ (4 : Word).extractLsb' 2 30 ≠ 0 ∧ (0xE0 : Byte) ∈ [0x80, 0xA0, 0xE0] ∧
    (0x60 : Byte) ∈ [0x00, 0x20, 0x40, 0x60] ∧
    exec (.ctrlWr 1) busy = .next { busy with
      acc := 0xFFFFFFFF, ok := false, mismatch := false, response := some (.okay 0) } := by
  refine ⟨by decide, by decide, by decide, by decide, rfl⟩

/-- Two operands that differ in every reserved bit. -/
theorem witness_CtrlWrIgnoresReservedBits : (0xFFFFFFFE : Word).extractLsb' 0 2 = (2 : Word).extractLsb' 0 2 ∧
    exec (.ctrlWr 0xFFFFFFFE) busy = .next { busy with err := false, errCause := 0, response := some (.okay 0) } :=
  ⟨by decide, rfl⟩

theorem witness_DataWr8Result : (0x85 : Byte) ∈ [0x85, 0x86, 0x87] ∧ (0x64 : Byte) ∈ [0x04, 0x24, 0x44, 0x64] := by decide
theorem witness_DataWr16Result : (0xA7 : Byte) ∈ [0xA5, 0xA6, 0xA7] ∧ (0x04 : Byte) ∈ [0x04, 0x24, 0x44, 0x64] := by decide
theorem witness_DataWr32Result : (0xC6 : Byte) ∈ [0xC5, 0xC6, 0xC7] ∧ (0x44 : Byte) ∈ [0x04, 0x24, 0x44, 0x64] := by decide

theorem witness_ResultRdResult :
    (0xFFFFFFFF : Word) = absorb 0xFFFFFFFF [] ∧ (0xA89820AA : Word) = absorb 0xFFFFFFFF [0x52] ∧
    (0x08 : Byte) ∈ [0x08, 0x28, 0x68] ∧ (0xE8 : Byte) ∈ [0x88, 0xA8, 0xC8, 0xE8] := by decide +kernel

/-- Both sides of the compare, and a SIZE descriptor. -/
theorem witness_ExpectWrResult :
    (0xD484093C : Word) = busy.acc ^^^ 0xFFFFFFFF ∧ (0xD484093D : Word) ≠ busy.acc ^^^ 0xFFFFFFFF ∧
    (0xEC : Byte) ∈ [0x8C, 0xAC, 0xEC] := by decide

theorem witness_ExpectRdResult :
    (0x6C : Byte) ∈ [0x0C, 0x2C, 0x6C] ∧ (∀ v, Instr.ctrlWr 3 ≠ .expectWr v) ∧
    exec (.ctrlWr 3) busy = .next { State.reset with expect := 0xD484093C, response := some (.okay 0) } := by
  refine ⟨by decide, by simp, rfl⟩

/-- The two ways ERR goes from 1 to 0, and the premises of the corner cases. -/
theorem witness_StatusRdResult :
    (0x70 : Byte) ∈ [0x10, 0x30, 0x70] ∧ (0xF0 : Byte) ∈ [0x90, 0xB0, 0xD0, 0xF0] ∧ busy.err = true ∧
    (after (step (presented (.request ⟨0xC0, 2⟩)))).map State.err = some false ∧
    (after (step (presented (.reset none)))).map State.err = some false ∧
    State.reset.err = false ∧ State.reset.errCause = 0 := by decide

/-- A bus error presented with ERR = 1, and one with ERR = 0. -/
theorem witness_BusErrorEffect :
    (presented (.request ⟨0xC0, 4⟩)).inputs = .request ⟨0xC0, 4⟩ :: [.request ⟨0x50, 0⟩] ∧
    causeOf ⟨0xC0, 4⟩ = some .rsvdBits ∧ (presented (.request ⟨0xC0, 4⟩)).err = true ∧
    (State.reset.withInputs [.request ⟨0x1F, 0⟩]).inputs = [.request ⟨0x1F, 0⟩] ∧
    causeOf ⟨0x1F, 0⟩ = some .unmapped := by decide

/-! ### What writes each register -/

/-- A step of each kind: idle, reset, and a transaction of each row that writes. -/
theorem witness_AccWriters :
    step busy = .next busy ∧
    step (presented (.reset none)) = .next (State.reset.withInputs [.request ⟨0x50, 0⟩]) ∧
    step (presented (.request ⟨0xC0, 1⟩)) = .next ((presented (.request ⟨0xC0, 1⟩)).startMessage.withResponse
      (some (.okay 0)) |>.withInputs [.request ⟨0x50, 0⟩]) ∧
    step (presented (.request ⟨0x48, 0⟩)) = .next ((presented (.request ⟨0x48, 0⟩)).withResponse
      (some (.okay 0xD484093C)) |>.withInputs [.request ⟨0x50, 0⟩]) := by refine ⟨rfl, rfl, rfl, rfl⟩

/-- EXPECT written, then read; and the two sides of the clause on accesses of offset 0x0C. -/
theorem witness_ExpectWriters :
    step (presented (.request ⟨0xCC, 7⟩)) = .next
      ((presented (.request ⟨0xCC, 7⟩)).checkExpect 7 |>.withResponse (some (.okay 0)) |>.withInputs [.request ⟨0x50, 0⟩]) ∧
    exec (.expectWr 7) busy = .next ((busy.checkExpect 7).withResponse (some (.okay 0))) ∧
    exec (.expectRd 0) ((busy.checkExpect 7).withResponse (some (.okay 0))) =
      .next ((busy.checkExpect 7).withResponse (some (.okay 7))) ∧
    (Txn.offset ⟨0x4C, 0⟩).toNat = 0x0C ∧ (Txn.offset ⟨0xEC, 0⟩).toNat = 0x0C ∧ causeOf ⟨0xEC, 0⟩ = some .size := by
  refine ⟨rfl, rfl, rfl, by decide, by decide, by decide⟩

/-- A compare on each side, CLR_ERR, and a bus error with ERR = 0 and with ERR = 1. -/
theorem witness_StatusFieldWriters :
    (after (step (presented (.request ⟨0xCC, 0xD484093C⟩)))).map (fun t => (t.ok, t.mismatch)) = some (true, false) ∧
    (after (step (presented (.request ⟨0xCC, 0⟩)))).map (fun t => (t.ok, t.mismatch)) = some (false, true) ∧
    (after (step (presented (.request ⟨0xC0, 2⟩)))).map (fun t => (t.err, t.errCause)) = some (false, 0) ∧
    (after (step (presented (.request ⟨0xE0, 0⟩)))).map (fun t => (t.err, t.errCause)) = some (true, 2) ∧
    (after (step (State.reset.withInputs [.request ⟨0xE0, 0⟩]))).map (fun t => (t.err, t.errCause)) = some (true, 3) ∧
    (0x30 : Byte) ∈ [0x10, 0x30, 0x70] ∧ (0xB0 : Byte) ∈ [0x90, 0xB0, 0xD0, 0xF0] := by decide

/-- Two states that differ in every flag, and an EXPECT_RD in each. -/
theorem witness_FlagsReadOnlyByStatusRd :
    let other := regs busy.acc busy.expect false true false 0
    other.acc = busy.acc ∧ other.expect = busy.expect ∧ other.inputs = busy.inputs ∧ other ≠ busy ∧
    after (exec (.expectRd 0) busy) = answered (.okay 0xD484093C) busy ∧
    after (exec (.expectRd 0) other) = answered (.okay 0xD484093C) other ∧
    (∀ w, Instr.expectRd 0 ≠ .statusRd w) := by
  refine ⟨by decide, by decide, by decide, by decide, by decide, by decide, by simp⟩

/-- A bus error and a CTRL write twice; the DATA descriptors are those of the last clause. -/
theorem witness_SideEffectsAndIdempotency :
    isDataWrite (decode ⟨0x85, 0⟩) = false ∧ isDataWrite (decode ⟨0xC0, 1⟩) = false ∧
    issue ⟨0xC0, 1⟩ State.reset = .next (State.reset.withResponse (some (.okay 0))) ∧
    issue ⟨0xC0, 1⟩ (State.reset.withResponse (some (.okay 0))) = .next (State.reset.withResponse (some (.okay 0))) ∧
    Instr.expectRd 0 ∈ [.resultRd 0, .expectRd 0, .statusRd 0] ∧ (0x84 : Byte) ∈ [0x84, 0xA4, 0xC4] := by
  refine ⟨by decide, by decide, rfl, rfl, by decide, by decide⟩

/-! ### Invariants -/

/-- From a state that meets the invariants, a step that changes a flag. -/
theorem witness_StepKeepsInvariants :
    (presented (.request ⟨0xCC, 0⟩)).Inv ∧
    after (step (presented (.request ⟨0xCC, 0⟩))) =
      some ({ regs 0x2B7BF6C3 0 false true true 2 with
        inputs := [.request ⟨0x50, 0⟩], response := some (.okay 0) }) := by decide

/-- Reset, a move presented, a step: ERR is set in a reachable state. -/
theorem witness_ReachableStatesMeetInvariants :
    Reachable { State.reset with err := true, errCause := 1, response := some .error } :=
  .step (State.reset.withInputs [.request ⟨0x1F, 0⟩]) _ (.present State.reset [.request ⟨0x1F, 0⟩] .reset) rfl

/-! ### The CRC function, messages -/

theorem witness_CrcAffineLinearity :
    ([0x61, 0x62] : List Byte).length = ([0x00, 0xFF] : List Byte).length ∧
    ([0x00, 0xFF] : List Byte).length = ([0x31, 0x32] : List Byte).length := by decide

theorem witness_SingleBitErrorChangesCrc : 7 < 8 ∧ 0 < 8 := by decide

theorem witness_EverySplitIsTheSame :
    ∀ i ∈ ([.dataWr16 0x6162, .dataWr8 0x63, .dataWr32 0] : List Instr), isDataWrite i = true := by decide

theorem witness_AccumulatorTracksMessage :
    State.reset.Holds [] ∧ (regs 0xA89820AA 0 false false false 0).Holds [0x52] := by decide +kernel

/-- DATA writes with a bus error, a CLR_ERR and a compare between them. -/
theorem witness_GeneratorLaw :
    ∀ i ∈ ([.dataWr8 0x52, .busErr .direction 0x44 0, .ctrlWr 2, .expectWr 5, .dataWr32 0x49454E44] : List Instr),
      i.wf = true ∧ startsMessage i = false := by decide

/-- The empty message. -/
theorem witness_ValidatorLaw : ∀ i ∈ ([.statusRd 0] : List Instr), i.wf = true ∧ startsMessage i = false := by decide

/-! ### Host procedures -/

theorem witness_PseudoInstructionExpansions : (⟨0x84, 0x6F⟩ : Txn) ∈ feedTxns [0x6F] := by decide

theorem witness_GenerateReturnsCrc : State.reset.err = false ∧ busy.err = true := by decide

/-- The shortest chunk, the longest span that is too short, and both values of ERR. -/
theorem witness_ValidateVerdict :
    12 ≤ ([0, 0, 0, 0, 0x49, 0x45, 0x4E, 0x44, 0xAE, 0x42, 0x60, 0x82] : List Byte).length ∧
    ([0, 0, 0, 0, 0x49, 0x45, 0x4E, 0x44, 0xAE, 0x42, 0x60] : List Byte).length < 12 ∧
    State.reset.err = false ∧ busy.err = true := by decide

theorem witness_GeneratedChunkValidates : State.reset.err = false ∧ (regs 1 2 true false false 0).err = false := by decide

/-- The last byte of the length field, the first of the type and the last of the stored CRC. -/
theorem witness_CorruptionIsDetected :
    let chunk := chunkWire #v[0x49, 0x45, 0x4E, 0x44] [] (crc32 ((#v[0x49, 0x45, 0x4E, 0x44] : Vector Byte 4).toList ++ []))
    State.reset.err = false ∧ 7 < 8 ∧ chunk[3]? = some 0x00 ∧ chunk[4]? = some 0x49 ∧ chunk[11]? = some 0x82 := by decide +kernel

theorem witness_ChunksAreIndependent :
    (regs 1 2 true false false 0).err = State.reset.err ∧ State.reset.err = false := by decide

/-! ### The port -/

/-- A DATA write accepted while idle, then the edges of its wait states with another request on the pins. -/
theorem witness_PortAnswersAfterLatency :
    let q : PortState := ⟨busy, none, 0⟩
    let p : Pins := ⟨false, true, true, 0b00, 0x04, 0x52⟩
    let ps := List.replicate (Config.latency q.accepted (pinsTxn p) + 1) (Pins.mk false true false 0b10 0x08 0)
    q.inFlight = none ∧ p.rst = false ∧ p.reqValid = true ∧ (∀ p' ∈ ps, p'.rst = false) ∧
    ps.length = Config.latency q.accepted (pinsTxn p) + 1 := by
  refine ⟨rfl, rfl, rfl, fun p' h => ?_, List.length_replicate⟩
  rw [(List.mem_replicate.1 h).2]

end Sys2Proof.Machine.Tests
end

section
/-! PROOFS, family 10_state. What each instruction does to each register (spec/10_state.md R21 to R23), said once as a law
of `execNext`; what a step does follows from it by `step_cases`. -/

namespace Sys2Proof.Machine

open Sys2Proof

/-! ### The bytes of a DATA write (R110 to R112) -/

theorem absorb_laneBytes_one (a w : Word) : absorb a (laneBytes 1 w) = upd a (w.extractLsb' 0 8) := rfl

theorem absorb_laneBytes_two (a w : Word) :
    absorb a (laneBytes 2 w) = upd (upd a (w.extractLsb' 8 8)) (w.extractLsb' 0 8) := rfl

theorem absorb_laneBytes_four (a w : Word) :
    absorb a (laneBytes 4 w) =
      upd (upd (upd (upd a (w.extractLsb' 24 8)) (w.extractLsb' 16 8)) (w.extractLsb' 8 8)) (w.extractLsb' 0 8) := rfl

/-! ### What each instruction does to each register -/

/-- ACC (R21): written by INIT and by a DATA write. -/
theorem execNext_acc (i : Instr) (s : State) :
    (execNext i s).acc =
      match i with
      | .ctrlWr w => if w.getLsbD 0 then 0xFFFFFFFF else s.acc
      | .dataWr8 w => upd s.acc (w.extractLsb' 0 8)
      | .dataWr16 w => upd (upd s.acc (w.extractLsb' 8 8)) (w.extractLsb' 0 8)
      | .dataWr32 w =>
        upd (upd (upd (upd s.acc (w.extractLsb' 24 8)) (w.extractLsb' 16 8)) (w.extractLsb' 8 8)) (w.extractLsb' 0 8)
      | _ => s.acc := by
  cases i with
  | dataWr8 w => exact absorb_laneBytes_one s.acc w
  | dataWr16 w => exact absorb_laneBytes_two s.acc w
  | dataWr32 w => exact absorb_laneBytes_four s.acc w
  | busErr => simp [execNext, State.recordError_eq]
  | _ => rfl

/-- EXPECT (R22): written by EXPECT_WR. -/
theorem execNext_expect (i : Instr) (s : State) :
    (execNext i s).expect =
      match i with
      | .expectWr v => v
      | _ => s.expect := by
  cases i with
  | busErr => simp [execNext, State.recordError_eq]
  | _ => rfl

/-- The compare (R121) sets exactly one of the two flags. -/
theorem State.checkExpect_flags (v : Word) (s : State) :
    ((s.checkExpect v).ok, (s.checkExpect v).mismatch) =
      if v = s.acc ^^^ 0xFFFFFFFF then (true, false) else (false, true) := by
  split <;> simp_all [State.checkExpect_eq]

/-- OK and MISMATCH (R23): set by the compare of EXPECT_WR, cleared by INIT and by a DATA write. -/
theorem execNext_compare (i : Instr) (s : State) :
    ((execNext i s).ok, (execNext i s).mismatch) =
      match i with
      | .ctrlWr w => if w.getLsbD 0 then (false, false) else (s.ok, s.mismatch)
      | .dataWr8 _ => (false, false)
      | .dataWr16 _ => (false, false)
      | .dataWr32 _ => (false, false)
      | .expectWr v => if v = s.acc ^^^ 0xFFFFFFFF then (true, false) else (false, true)
      | _ => (s.ok, s.mismatch) := by
  cases i with
  | ctrlWr w => cases h : w.getLsbD 0 <;> simp only [execNext, h] <;> rfl
  | expectWr v => exact s.checkExpect_flags v
  | busErr => simp [execNext, State.recordError_eq]
  | _ => rfl

/-- ERR and ERR_CAUSE (R23): set by the first bus error while ERR = 0, cleared by CLR_ERR. -/
theorem execNext_error (i : Instr) (s : State) :
    ((execNext i s).err, (execNext i s).errCause) =
      match i with
      | .ctrlWr w => if w.getLsbD 1 then (false, 0) else (s.err, s.errCause)
      | .busErr cause _ _ => if s.err then (true, s.errCause) else (true, causeCode cause)
      | _ => (s.err, s.errCause) := by
  cases i with
  | ctrlWr w => cases h : w.getLsbD 1 <;> simp only [execNext, h] <;> rfl
  | busErr cause => cases h : s.err <;> simp [execNext, State.recordError_eq, h]
  | _ => rfl

/-! ### The STATUS word (R24) -/

/-- Every bit of STATUS: ERR_CAUSE ends at bit 6, so the bits from 7 up are 0. -/
theorem State.getLsbD_statusWord (s : State) (i : Nat) :
    s.statusWord.getLsbD i =
      match i with
      | 0 => s.ok
      | 1 => s.mismatch
      | 2 => s.err
      | 3 => false
      | k + 4 => s.errCause.getLsbD k := by
  simp only [statusWord, BitVec.getLsbD_setWidth, BitVec.getLsbD_append, BitVec.getLsbD_ofBool]
  match i with
  | 0 => simp
  | 1 => simp
  | 2 => simp
  | 3 => simp
  | k + 4 =>
    by_cases hk : k < 3
    · simp [show k + 4 < 32 by omega]
    · simp [BitVec.getLsbD_of_ge s.errCause k (by omega)]

/-- R24's second form: each field shifted to its place. -/
theorem State.statusWord_eq_or (s : State) :
    s.statusWord = (BitVec.ofBool s.ok).setWidth 32 ||| ((BitVec.ofBool s.mismatch).setWidth 32 <<< 1) |||
      ((BitVec.ofBool s.err).setWidth 32 <<< 2) ||| (s.errCause.setWidth 32 <<< 4) := by
  apply BitVec.eq_of_getLsbD_eq
  intro i hi
  rw [State.getLsbD_statusWord]
  match i with
  | 0 => simp
  | 1 => simp
  | 2 => simp
  | 3 => simp
  | k + 4 => simp [hi]

/-- STATUS[6:4] is ERR_CAUSE. -/
theorem State.statusWord_errCause (s : State) : s.statusWord.extractLsb' 4 3 = s.errCause := by
  apply BitVec.eq_of_getLsbD_eq
  intro i hi
  simp [hi, Nat.add_comm 4 i, State.getLsbD_statusWord]

/-- STATUS[31:7] is 0: ERR_CAUSE has no bit from 3 up. -/
theorem State.statusWord_high (s : State) : s.statusWord.extractLsb' 7 25 = 0 := by
  apply BitVec.eq_of_getLsbD_eq
  intro i hi
  simp [show 7 + i = 3 + i + 4 by omega, State.getLsbD_statusWord]

end Sys2Proof.Machine

namespace Sys2Proof

/-! ### The decoder -/

/-- A descriptor that raises a cause whatever WDATA is decodes to that bus error. -/
theorem decode_of_causeOfDesc {desc : Byte} {cause : Cause} (h : ∀ reservedSet, causeOfDesc reservedSet desc = some cause)
    (w : Word) : decode ⟨desc, w⟩ = .busErr cause desc w :=
  decode_of_cause ((causeOf_eq ⟨desc, w⟩).trans (h _))

/-- A descriptor that is legal whatever WDATA decodes to its register's row (R63). -/
theorem decode_of_legalDesc {desc : Byte} {reg : Reg} (hc : ∀ reservedSet, causeOfDesc reservedSet desc = none)
    (hr : regAt (Txn.offset ⟨desc, 0⟩) = some reg) (w : Word) :
    decode ⟨desc, w⟩ = rowOf reg (Txn.isWrite ⟨desc, 0⟩) (Txn.sizeCode ⟨desc, 0⟩) w := by
  have hcause : causeOf ⟨desc, w⟩ = none := (causeOf_eq ⟨desc, w⟩).trans (hc _)
  have hreg : regAt (Txn.offset ⟨desc, w⟩) = some reg := hr
  simp only [decode, hcause, hreg]
  rfl

/-- EXPECT may be read and written, but only as a word (R22). -/
theorem causeOf_expect {t : Txn} (h : regAt t.offset = some .expect) :
    causeOf t = if t.sizeCode = 0b10 then none else some .size := by
  simp only [causeOf, h, wrongDirection]
  by_cases hs : t.sizeCode = 0b10
  · simp [hs]
  · simp [show t.sizeCode ≠ 2#2 from hs]

theorem decode_expectWr (v : Word) : decode ⟨0xCC, v⟩ = .expectWr v :=
  decode_of_legalDesc (reg := .expect) (by decide) (by decide) v

theorem decode_expectRd (w : Word) : decode ⟨0x4C, w⟩ = .expectRd w :=
  decode_of_legalDesc (reg := .expect) (by decide) (by decide) w

theorem decode_statusRd (w : Word) : decode ⟨0x50, w⟩ = .statusRd w :=
  decode_of_legalDesc (reg := .status) (by decide) (by decide) w

/-- A STATUS read that is no word access (R162). -/
theorem decode_status_size {desc : Byte} (h : desc ∈ [0x10, 0x30, 0x70]) (w : Word) :
    decode ⟨desc, w⟩ = .busErr .size desc w := by
  have hcause : ∀ d ∈ [0x10, 0x30, 0x70], ∀ reservedSet, causeOfDesc reservedSet d = some .size := by decide
  exact decode_of_causeOfDesc (hcause desc h) w

/-- A STATUS write of any size (R162). -/
theorem decode_status_direction {desc : Byte} (h : desc ∈ [0x90, 0xB0, 0xD0, 0xF0]) (w : Word) :
    decode ⟨desc, w⟩ = .busErr .direction desc w := by
  have hcause : ∀ d ∈ [0x90, 0xB0, 0xD0, 0xF0], ∀ reservedSet, causeOfDesc reservedSet d = some .direction := by decide
  exact decode_of_causeOfDesc (hcause desc h) w

end Sys2Proof

open Sys2Proof Sys2Proof.Machine

/-- Settles O31: `execNext_acc` at the step. -/
theorem accWriters : Obligations.AccWriters := by
  refine ⟨fun s t h => ?_, fun w s => exec_eq _ s, fun a b h => ?_⟩
  · obtain ⟨hi, rfl⟩ | ⟨_, rest, hi, rfl⟩ | ⟨txn, rest, hi, rfl⟩ := step_cases h
    · rw [hi]
    · rw [hi]; rfl
    · rw [hi]; exact execNext_acc (decode txn) (s.withInputs rest)
  · exact (BitVec.xor_left_inj 0xFFFFFFFF).mp h

/-- Settles O32: `execNext_expect` at the step, and EXPECT's row of the decoder. -/
theorem expectWriters : Obligations.ExpectWriters := by
  refine ⟨fun s t h => ?_, fun v w s t u ht hu => ?_, fun txn hoff => ?_, fun v => ⟨decode_expectWr v, decode_expectRd v⟩⟩
  · obtain ⟨hi, rfl⟩ | ⟨_, rest, hi, rfl⟩ | ⟨txn, rest, hi, rfl⟩ := step_cases h
    · rw [hi]
    · rw [hi]; rfl
    · rw [hi]; exact execNext_expect (decode txn) (s.withInputs rest)
  · rw [exec_eq] at ht hu
    cases ht; cases hu; rfl
  · have hreg : regAt txn.offset = some .expect := by simp only [regAt, hoff]
    simp [causeOf_expect hreg]

/-- Settles O33: `execNext_compare` and `execNext_error` at the step, and the bits of STATUS. -/
theorem statusFieldWriters : Obligations.StatusFieldWriters := by
  refine ⟨fun s t h => ?_, fun s t h => ?_, fun s => ⟨?_, ?_, ?_, ?_, ?_, ?_⟩, decode_statusRd,
    fun _ w hd => decode_status_size hd w, fun _ w hd => decode_status_direction hd w⟩
  · obtain ⟨hi, rfl⟩ | ⟨_, rest, hi, rfl⟩ | ⟨txn, rest, hi, rfl⟩ := step_cases h
    · rw [hi]
    · rw [hi]; rfl
    · rw [hi]; exact execNext_compare (decode txn) (s.withInputs rest)
  · obtain ⟨hi, rfl⟩ | ⟨_, rest, hi, rfl⟩ | ⟨txn, rest, hi, rfl⟩ := step_cases h
    · rw [hi]
    · rw [hi]; rfl
    · rw [hi]; exact execNext_error (decode txn) (s.withInputs rest)
  · exact s.getLsbD_statusWord 0
  · exact s.getLsbD_statusWord 1
  · exact s.getLsbD_statusWord 2
  · exact s.getLsbD_statusWord 3
  · exact s.statusWord_errCause
  · exact s.statusWord_high

/-- Settles O27: the first form is the definition of `statusWord`, the second is `State.statusWord_eq_or`. -/
theorem statusReadValue : Obligations.StatusReadValue := fun w s =>
  ⟨execNext (.statusRd w) s, exec_eq _ s, rfl, congrArg (some ∘ Response.okay) s.statusWord_eq_or⟩

end

section
/-! PROOFS, family 20_memory. The bus primitives (spec/20_memory.md R41): the fields of a packed descriptor, what of WDATA
reaches the state, and how a write is answered. -/

namespace Sys2Proof

/-! ### The fields of a packed descriptor (R60) -/

@[simp] theorem isWrite_packDesc (write : Bool) (sz : BitVec 2) (off : BitVec 5) (w : Word) :
    Txn.isWrite ⟨packDesc write sz off, w⟩ = write := by
  have hbit : (BitVec.ofBool write ++ sz ++ off).getLsbD 7 = write := by
    simp only [BitVec.getLsbD_append]
    simp
  exact hbit

@[simp] theorem sizeCode_packDesc (write : Bool) (sz : BitVec 2) (off : BitVec 5) (w : Word) :
    Txn.sizeCode ⟨packDesc write sz off, w⟩ = sz :=
  (BitVec.extractLsb'_append_eq_of_le (xhi := BitVec.ofBool write ++ sz) (xlo := off) (Nat.le_refl 5)).trans
    BitVec.extractLsb'_append_eq_right

@[simp] theorem offset_packDesc (write : Bool) (sz : BitVec 2) (off : BitVec 5) (w : Word) :
    Txn.offset ⟨packDesc write sz off, w⟩ = off :=
  BitVec.extractLsb'_append_eq_right

/-! ### The decoder and WDATA (R64) -/

/-- R64's checks before the last: a legal transaction names a register, in a direction the register has, and only DATA
has sizes other than the word. -/
theorem decode_of_legal {t : Txn} (h : causeOf t = none) :
    ∃ reg, regAt t.offset = some reg ∧ wrongDirection t.isWrite reg = false ∧ (reg ≠ .data → t.sizeCode = 0b10) ∧
      decode t = rowOf reg t.isWrite t.sizeCode t.wdata := by
  cases hreg : regAt t.offset with
  | none => simp [causeOf, hreg] at h
  | some reg =>
    have hdecode : decode t = rowOf reg t.isWrite t.sizeCode t.wdata := by simp only [decode, h, hreg]
    simp only [causeOf, hreg] at h
    split_ifs at h with hdir hcode hsize hreserved
    exact ⟨reg, rfl, by simpa using hdir, fun hdata => by simpa [hdata] using hsize, hdecode⟩

/-- The cause depends on WDATA only in a word write, which may be one of CTRL. -/
theorem causeOf_wdata_irrelevant {write : Bool} {sz : BitVec 2} (h : write = false ∨ sz ≠ 0b10) (off : BitVec 5)
    (w w' : Word) : causeOf ⟨packDesc write sz off, w⟩ = causeOf ⟨packDesc write sz off, w'⟩ := by
  simp only [causeOf, isWrite_packDesc, sizeCode_packDesc, offset_packDesc]
  cases regAt off with
  | none => rfl
  | some reg =>
    by_cases hctrl : reg = .ctrl
    · subst hctrl
      rcases h with rfl | hsz
      · simp [wrongDirection]
      · simp [show sz ≠ 2#2 from hsz]
    · simp [hctrl]

end Sys2Proof

namespace Sys2Proof.Machine

open Sys2Proof

/-! ### The low bits of WDATA (R41) -/

theorem getLsbD_eq_of_mod_two_pow_eq {w w' : Word} {m : Nat} (h : w.toNat % 2 ^ m = w'.toNat % 2 ^ m) :
    ∀ i < m, w.getLsbD i = w'.getLsbD i := by
  intro i hi
  have hbit := congrArg (Nat.testBit · i) h
  simpa only [Nat.testBit_mod_two_pow, hi, decide_true, Bool.true_and, BitVec.testBit_toNat] using hbit

/-- The n low lanes are made of the low 8n bits. -/
theorem laneBytes_congr {w w' : Word} :
    ∀ {n : Nat}, (∀ i < 8 * n, w.getLsbD i = w'.getLsbD i) → laneBytes n w = laneBytes n w'
  | 0, _ => rfl
  | n + 1, h => by
    have hlane : byteLane n w = byteLane n w' := by
      apply BitVec.eq_of_getLsbD_eq
      intro i hi
      rw [getLsbD_byteLane, getLsbD_byteLane, h (8 * n + i) (by omega)]
    rw [laneBytes, laneBytes, hlane, laneBytes_congr fun i hi => h i (by omega)]

/-! ### Issuing a transaction (R41) -/

/-- Two transactions other than word writes that differ in WDATA alone act alike, if their legal rows do: a bus error
records nothing of WDATA (R162). -/
theorem issue_wdata_congr {write : Bool} {sz : BitVec 2} (h : write = false ∨ sz ≠ 0b10) (off : BitVec 5) {w w' : Word}
    {s : State}
    (hrow : ∀ reg, wrongDirection write reg = false → (reg ≠ .data → sz = 0b10) →
      execNext (rowOf reg write sz w) s = execNext (rowOf reg write sz w') s) :
    issue ⟨packDesc write sz off, w⟩ s = issue ⟨packDesc write sz off, w'⟩ s := by
  have hcause := causeOf_wdata_irrelevant h off w w'
  rw [issue_eq, issue_eq]
  cases hc : causeOf ⟨packDesc write sz off, w⟩ with
  | some cause => rw [decode_of_cause hc, decode_of_cause (hcause ▸ hc)]; rfl
  | none =>
    obtain ⟨reg, hreg, hdir, hsize, hdecode⟩ := decode_of_legal hc
    obtain ⟨reg', hreg', -, -, hdecode'⟩ := decode_of_legal (hcause ▸ hc)
    simp only [isWrite_packDesc, sizeCode_packDesc, offset_packDesc] at hreg hreg' hdir hsize hdecode hdecode'
    obtain rfl : reg = reg' := Option.some.inj (hreg.symm.trans hreg')
    rw [hdecode, hdecode', hrow reg hdir hsize]

/-- A read ignores WDATA, legal or not. -/
theorem issue_read_wdata (sz : BitVec 2) (off : BitVec 5) (w w' : Word) (s : State) :
    issue ⟨packDesc false sz off, w⟩ s = issue ⟨packDesc false sz off, w'⟩ s := by
  refine issue_wdata_congr (.inl rfl) off fun reg hdir _ => ?_
  cases reg with
  | ctrl => cases hdir
  | data => cases hdir
  | result => rfl
  | expect => rfl
  | status => rfl

/-- A narrow write can differ only in its DATA row: of any other register it is a bus error (R64). -/
theorem issue_narrowWrite_congr {sz : BitVec 2} (hsz : sz ≠ 0b10) (off : BitVec 5) {w w' : Word} {s : State}
    (hdata : execNext (rowOf .data true sz w) s = execNext (rowOf .data true sz w') s) :
    issue ⟨packDesc true sz off, w⟩ s = issue ⟨packDesc true sz off, w'⟩ s := by
  refine issue_wdata_congr (.inr hsz) off fun reg _ hsize => ?_
  obtain rfl : reg = .data := by_contra fun hreg => hsz (hsize hreg)
  exact hdata

/-- What a DATA write of n bytes does with its bytes depends on the low 8n bits alone (R110 to R112). -/
theorem answered_feed_congr {n : Nat} {w w' : Word} (h : ∀ i < 8 * n, w.getLsbD i = w'.getLsbD i) (s : State) :
    (s.feed (laneBytes n w)).withResponse (some (.okay 0)) = (s.feed (laneBytes n w')).withResponse (some (.okay 0)) := by
  rw [laneBytes_congr h]

/-- A write of n bytes uses only the low 8n bits of its value. -/
theorem issue_busWrite_congr (off : BitVec 5) (n : AccessSize) {v v' : Word} (s : State)
    (h : ∀ i < 8 * sizeBytes n, v.getLsbD i = v'.getLsbD i) :
    issue (busWrite off n v) s = issue (busWrite off n v') s := by
  cases n with
  | one => exact issue_narrowWrite_congr (by decide) off (answered_feed_congr h s)
  | two => exact issue_narrowWrite_congr (by decide) off (answered_feed_congr h s)
  | four => rw [BitVec.eq_of_getLsbD_eq h]

/-! ### The answers (R41) -/

theorem execNext_answers (i : Instr) (s : State) : ∃ r, (execNext i s).response = some r := by
  cases i <;> exact ⟨_, rfl⟩

/-- A legal write answers okay(0), whatever register it writes. -/
theorem response_rowOf_write {reg : Reg} (h : wrongDirection true reg = false) (sz : BitVec 2) (w : Word) (s : State) :
    (execNext (rowOf reg true sz w) s).response = some (.okay 0) := by
  cases reg with
  | ctrl => rfl
  | data => simp only [rowOf]; split_ifs <;> rfl
  | result => cases h
  | expect => rfl
  | status => cases h

/-- A write answers okay(0), or error where the decoder gives a cause. -/
theorem response_of_write {t : Txn} (h : t.isWrite = true) (s : State) :
    (execNext (decode t) s).response = some (.okay 0) ∨ (execNext (decode t) s).response = some .error := by
  cases hc : causeOf t with
  | some cause => rw [decode_of_cause hc]; exact .inr rfl
  | none =>
    obtain ⟨reg, -, hdir, -, hdecode⟩ := decode_of_legal hc
    rw [h] at hdir hdecode
    rw [hdecode]
    exact .inl (response_rowOf_write hdir _ _ s)

theorem accessBytes_sizeCodeOf (n : AccessSize) : accessBytes (sizeCodeOf n) = some (sizeBytes n) := by
  cases n <;> rfl

end Sys2Proof.Machine

open Sys2Proof Sys2Proof.Machine

/-- Settles O18: the fields of `packDesc`, `issue_busWrite_congr`, `issue_read_wdata`, and the answers of `execNext`. -/
theorem busPrimitives : Obligations.BusPrimitives := by
  refine ⟨fun off n v => ?fields, fun off n v v' s h => ?lowBits, fun off n w s => ?readWdata, fun off n v s => ?write,
    fun off n s => ?read, fun txn s => ?issue⟩
  case fields => simp [busWrite, busRead, accessBytes_sizeCodeOf]
  case lowBits => exact issue_busWrite_congr off n s (getLsbD_eq_of_mod_two_pow_eq h)
  case readWdata => exact issue_read_wdata (sizeCodeOf n) off w 0 s
  case write => exact ⟨_, issue_eq _ s, response_of_write (isWrite_packDesc true (sizeCodeOf n) off v) s⟩
  case read =>
    obtain ⟨r, hr⟩ := execNext_answers (decode (busRead off n)) s
    exact ⟨_, r, issue_eq _ s, hr⟩
  case issue => rw [issue_eq, exec_eq]

end

section
/-! PROOFS, family 30_encoding. The size codes (spec/30_encoding.md R61), operand assembly (R62) and the opcode map (R63):
the first checks of the decoder's chain (R64) one at a time, each descriptor of the map with its row, and what a DATA write
uses of WDATA. -/

namespace Sys2Proof

/-! ### The decoder's checks in their order (R64) -/

/-- The five mapped offsets (R45). -/
theorem regAt_eq_none_iff (off : BitVec 5) : regAt off = none ↔ off.toNat ∉ [0x00, 0x04, 0x08, 0x0C, 0x10] := by
  revert off; decide

/-- The second check by offset: RESULT and STATUS take no write, CTRL and DATA no read. -/
theorem wrongDirection_iff {off : BitVec 5} {reg : Reg} (h : regAt off = some reg) (write : Bool) :
    wrongDirection write reg = true ↔
      (write = true ∧ off.toNat ∈ [0x08, 0x10]) ∨ (write = false ∧ off.toNat ∈ [0x00, 0x04]) := by
  have hall : ∀ (off : BitVec 5) (write : Bool), ∀ reg ∈ regAt off, wrongDirection write reg = true ↔
      (write = true ∧ off.toNat ∈ [0x08, 0x10]) ∨ (write = false ∧ off.toNat ∈ [0x00, 0x04]) := by decide
  exact hall off write reg h

theorem causeOf_unmapped {t : Txn} (h : regAt t.offset = none) : causeOf t = some .unmapped := by
  simp only [causeOf, h]

theorem causeOf_direction {t : Txn} {reg : Reg} (hreg : regAt t.offset = some reg)
    (hdir : wrongDirection t.isWrite reg = true) : causeOf t = some .direction := by
  simp only [causeOf, hreg, if_pos hdir]

theorem causeOf_reservedSize {t : Txn} {reg : Reg} (hreg : regAt t.offset = some reg)
    (hdir : ¬ wrongDirection t.isWrite reg = true) (hsize : t.sizeCode = 0b11) : causeOf t = some .size := by
  simp only [causeOf, hreg, if_neg hdir, if_pos hsize]

/-! ### The rows of the opcode map (R63) -/

/-- A word write of CTRL has at most one cause, the last of R64's chain. -/
theorem causeOf_ctrlWr (w : Word) : causeOf ⟨0xC0, w⟩ = if ctrlReserved w = 0 then none else some .rsvdBits := by
  have hdesc : ∀ reservedSet, causeOfDesc reservedSet 0xC0 = if reservedSet then some .rsvdBits else none := by decide
  rw [causeOf_eq, hdesc]
  by_cases h : ctrlReserved w = 0 <;> simp [h]

theorem decode_ctrlWr {w : Word} (h : ctrlReserved w = 0) : decode ⟨0xC0, w⟩ = .ctrlWr w := by
  obtain ⟨reg, hreg, -, -, hdecode⟩ := decode_of_legal ((causeOf_ctrlWr w).trans (if_pos h))
  have hctrl : regAt (Txn.offset ⟨0xC0, 0⟩) = some .ctrl := by decide
  obtain rfl : Reg.ctrl = reg := Option.some.inj (hctrl.symm.trans hreg)
  exact hdecode

theorem decode_ctrlWr_reserved {w : Word} (h : ctrlReserved w ≠ 0) : decode ⟨0xC0, w⟩ = .busErr .rsvdBits 0xC0 w :=
  decode_of_cause ((causeOf_ctrlWr w).trans (if_neg h))

theorem decode_dataWr8 (w : Word) : decode ⟨0x84, w⟩ = .dataWr8 w :=
  decode_of_legalDesc (reg := .data) (by decide) (by decide) w

theorem decode_dataWr16 (w : Word) : decode ⟨0xA4, w⟩ = .dataWr16 w :=
  decode_of_legalDesc (reg := .data) (by decide) (by decide) w

theorem decode_dataWr32 (w : Word) : decode ⟨0xC4, w⟩ = .dataWr32 w :=
  decode_of_legalDesc (reg := .data) (by decide) (by decide) w

theorem decode_resultRd (w : Word) : decode ⟨0x48, w⟩ = .resultRd w :=
  decode_of_legalDesc (reg := .result) (by decide) (by decide) w

/-- The other 248 descriptors are bus errors: a legal one is in the map (`causeOfDesc_none`). -/
theorem decode_of_illegalDesc {desc : Byte} (h : desc ∉ [0xC0, 0x84, 0xA4, 0xC4, 0x48, 0xCC, 0x4C, 0x50]) (w : Word) :
    ∃ cause, decode ⟨desc, w⟩ = .busErr cause desc w := by
  cases hc : causeOf ⟨desc, w⟩ with
  | some cause => exact ⟨cause, decode_of_cause hc⟩
  | none => exact absurd (causeOfDesc_none _ desc ((causeOf_eq ⟨desc, w⟩).symm.trans hc)).1 h

end Sys2Proof

namespace Sys2Proof.Machine

open Sys2Proof

/-! ### What a DATA write uses of WDATA (R62) -/

/-- A mask that keeps the low 8n bits keeps the n low lanes. -/
theorem laneBytes_and_mask {n : Nat} {mask : Word} (h : ∀ i < 8 * n, mask.getLsbD i = true) (w : Word) :
    laneBytes n (w &&& mask) = laneBytes n w :=
  laneBytes_congr fun i hi => by rw [BitVec.getLsbD_and, h i hi, Bool.and_true]

theorem exec_dataWr8_lowByte (w : Word) (s : State) :
    exec (.dataWr8 w) s = exec (.dataWr8 (w &&& 0x000000FF)) s := by
  have hlanes := laneBytes_and_mask (n := 1) (mask := 0x000000FF) (by decide) w
  rw [exec_eq, exec_eq, execNext, execNext, hlanes]

theorem exec_dataWr16_lowHalf (w : Word) (s : State) :
    exec (.dataWr16 w) s = exec (.dataWr16 (w &&& 0x0000FFFF)) s := by
  have hlanes := laneBytes_and_mask (n := 2) (mask := 0x0000FFFF) (by decide) w
  rw [exec_eq, exec_eq, execNext, execNext, hlanes]

/-- A legal read answers okay with some 32-bit RDATA. -/
theorem exec_read_answers_okay {w : Word} {i : Instr} (h : i ∈ [.resultRd w, .expectRd w, .statusRd w]) (s : State) :
    ∃ t rdata, exec i s = .next t ∧ t.response = some (.okay rdata) := by
  simp only [List.mem_cons, List.not_mem_nil, or_false] at h
  rcases h with rfl | rfl | rfl
  · exact ⟨_, s.result, exec_eq _ s, rfl⟩
  · exact ⟨_, s.expect, exec_eq _ s, rfl⟩
  · exact ⟨_, s.statusWord, exec_eq _ s, rfl⟩

end Sys2Proof.Machine

open Sys2Proof Sys2Proof.Machine

/-- Settles O8: the first three checks of R64's chain; the third always applies where SZ = 11. -/
theorem sizeCodes : Obligations.SizeCodes := by
  refine ⟨rfl, rfl, rfl, rfl, fun txn hsize => ?_⟩
  cases hreg : regAt txn.offset with
  | none =>
    rw [if_pos ((regAt_eq_none_iff txn.offset).mp hreg)]
    exact decode_of_cause (causeOf_unmapped hreg)
  | some reg =>
    have hmapped : ¬ txn.offset.toNat ∉ [0x00, 0x04, 0x08, 0x0C, 0x10] := by
      rw [← regAt_eq_none_iff, hreg]; exact Option.some_ne_none reg
    rw [if_neg hmapped]
    by_cases hdir : wrongDirection txn.isWrite reg = true
    · rw [if_pos ((wrongDirection_iff hreg _).mp hdir)]
      exact decode_of_cause (causeOf_direction hreg hdir)
    · rw [if_neg (mt (wrongDirection_iff hreg _).mpr hdir)]
      exact decode_of_cause (causeOf_reservedSize hreg hdir hsize)

/-- Settles O9: the lanes of a DATA write, in order, are all that it uses of WDATA, and the decoder checks WDATA only in a
CTRL write. -/
theorem operandAssembly : Obligations.OperandAssembly := by
  refine ⟨fun w => ⟨rfl, rfl, rfl⟩, fun w s => ⟨exec_dataWr8_lowByte w s, exec_dataWr16_lowHalf w s⟩,
    fun w => ⟨decode_dataWr8 w, decode_dataWr16 w⟩, fun w => ?ctrlChecked,
    fun w s => ⟨execNext (.expectWr w) s, exec_eq _ s, execNext_expect _ s⟩, fun w w' s => ⟨rfl, rfl, rfl⟩,
    fun w s i hi => exec_read_answers_okay hi s⟩
  case ctrlChecked =>
    split_ifs with h
    · exact decode_ctrlWr ((ctrlReserved_eq_zero_iff w).mpr h)
    · exact decode_ctrlWr_reserved (mt (ctrlReserved_eq_zero_iff w).mp h)

/-- Settles O10: one lemma for each row of R63, and `decode_of_illegalDesc` for the descriptors outside it. -/
theorem eightLegalDescriptors : Obligations.EightLegalDescriptors :=
  ⟨fun w => ⟨decode_ctrlWr, decode_dataWr8 w, decode_dataWr16 w, decode_dataWr32 w, decode_resultRd w, decode_expectWr w,
      decode_expectRd w, decode_statusRd w⟩,
    by decide, fun _ h => ⟨.rsvdBits, decode_ctrlWr_reserved h⟩, fun _ w h => decode_of_illegalDesc h w⟩

end

section
/-! PROOFS, family 41_control. CTRL_WR (spec/41_control.md R100): R162's descriptor lists of SIZE and DIRECTION at the
decoder, the whole effect of a bus error, and the corner cases of CTRL_WR as facts of `execNext`. -/

namespace Sys2Proof

/-! ### The descriptors of a wrong size or direction (R162) -/

theorem decode_of_mem_sizeDescs {desc : Byte} (h : desc ∈ sizeDescs) (w : Word) :
    decode ⟨desc, w⟩ = .busErr .size desc w := by
  have hcause : ∀ d ∈ sizeDescs, ∀ reservedSet, causeOfDesc reservedSet d = some .size := by decide
  exact decode_of_causeOfDesc (hcause desc h) w

theorem decode_of_mem_directionDescs {desc : Byte} (h : desc ∈ directionDescs) (w : Word) :
    decode ⟨desc, w⟩ = .busErr .direction desc w := by
  have hcause : ∀ d ∈ directionDescs, ∀ reservedSet, causeOfDesc reservedSet d = some .direction := by decide
  exact decode_of_causeOfDesc (hcause desc h) w

end Sys2Proof

namespace Sys2Proof.Machine

open Sys2Proof

/-- A bus error writes ERR, ERR_CAUSE and the answer and nothing else (R161, R163). -/
theorem exec_busErr_eq (cause : Cause) (desc : Byte) (w : Word) (s : State) :
    exec (.busErr cause desc w) s = .next { s with
      err := true, errCause := if s.err then s.errCause else causeCode cause, response := some .error } := by
  rw [exec_eq, execNext, State.recordError_eq, State.withResponse_eq]

/-! ### The corner cases of CTRL_WR (R100) -/

/-- The NOP of D34: with neither INIT nor CLR_ERR a CTRL_WR only answers. -/
theorem issue_nopTxn (s : State) : issue nopTxn s = .next { s with response := some (.okay 0) } := by
  have hdecode : decode nopTxn = .ctrlWr 0 := by decide
  rw [issue_eq, hdecode]
  rfl

/-- What INIT writes is what reset wrote (R180). -/
theorem issue_initTxn_reset : issue initTxn State.reset = .next { State.reset with response := some (.okay 0) } := by
  have hdecode : decode initTxn = .ctrlWr 1 := by decide
  rw [issue_eq, hdecode]
  rfl

/-- INIT and CLR_ERR write constants, so a second CTRL_WR of the same WDATA finds them in place. -/
theorem execNext_ctrlWr_idem (w : Word) (s : State) :
    execNext (.ctrlWr w) (execNext (.ctrlWr w) s) = execNext (.ctrlWr w) s := by
  cases hinit : w.getLsbD 0 <;> cases hclr : w.getLsbD 1 <;>
    simp only [execNext, hinit, hclr, if_true, Bool.false_eq_true, if_false]

end Sys2Proof.Machine

open Sys2Proof Sys2Proof.Machine

/-- Settles O19: the CTRL_WR row of `exec_eq`, CTRL's descriptors among R162's lists, and R100's corner cases. -/
theorem ctrlWrResult : Obligations.CtrlWrResult := by
  have hsize : [0x80, 0xA0, 0xE0] ⊆ sizeDescs := by decide
  have hdirection : [0x00, 0x20, 0x40, 0x60] ⊆ directionDescs := by decide
  refine ⟨fun w s _ => exec_eq (.ctrlWr w) s, fun _ => decode_ctrlWr, fun _ => decode_ctrlWr_reserved,
    fun _ w h => decode_of_mem_sizeDescs (hsize h) w, fun _ w h => decode_of_mem_directionDescs (hdirection h) w,
    exec_busErr_eq, issue_nopTxn, issue_initTxn_reset, fun w s t _ ht => ?repeated⟩
  case repeated =>
    rw [exec_eq] at ht
    cases ht
    rw [exec_eq, execNext_ctrlWr_idem]

end

section
/-! PROOFS, family 42_data. The data writes (spec/42_data.md R110 to R112): the DATA window's exceptions, and four absorbed
bytes as 32 one-bit steps on ACC with the bytes added, from which a DATA_WR32 is one-to-one. -/

namespace Sys2Proof

/-! ### The exceptions of DATA (R110) -/

/-- An offset between the registers is UNMAPPED, whatever else the transaction says. -/
theorem decode_of_regAt_none {desc : Byte} (h : regAt (Txn.offset ⟨desc, 0⟩) = none) (w : Word) :
    decode ⟨desc, w⟩ = .busErr .unmapped desc w :=
  decode_of_cause (causeOf_unmapped h)

/-- Reading offset 0x04 at any size is DIRECTION. -/
theorem decode_dataRead {desc : Byte} (h : desc ∈ [0x04, 0x24, 0x44, 0x64]) (w : Word) :
    decode ⟨desc, w⟩ = .busErr .direction desc w := by
  have hlist : [0x04, 0x24, 0x44, 0x64] ⊆ directionDescs := by decide
  exact decode_of_mem_directionDescs (hlist h) w

end Sys2Proof

namespace Sys2Proof.Machine

open Sys2Proof

theorem exec_busErr_keeps_acc (cause : Cause) (desc : Byte) (w : Word) (s : State) :
    ∃ t, exec (.busErr cause desc w) s = .next t ∧ t.acc = s.acc :=
  ⟨_, exec_eq _ s, execNext_acc _ s⟩

/-! ### The DATA writes (R110 to R112) -/

theorem exec_dataWr8_eq (w : Word) (s : State) :
    exec (.dataWr8 w) s = .next { s with
      acc := upd s.acc (w.extractLsb' 0 8), ok := false, mismatch := false, response := some (.okay 0) } := by
  rw [exec_eq, execNext, State.feed_eq, State.withResponse_eq, absorb_laneBytes_one]

theorem exec_dataWr16_eq (w : Word) (s : State) :
    exec (.dataWr16 w) s = .next { s with
      acc := upd (upd s.acc (w.extractLsb' 8 8)) (w.extractLsb' 0 8)
      ok := false, mismatch := false, response := some (.okay 0) } := by
  rw [exec_eq, execNext, State.feed_eq, State.withResponse_eq, absorb_laneBytes_two]

theorem exec_dataWr32_eq (w : Word) (s : State) :
    exec (.dataWr32 w) s = .next { s with
      acc := upd (upd (upd (upd s.acc (w.extractLsb' 24 8)) (w.extractLsb' 16 8)) (w.extractLsb' 8 8)) (w.extractLsb' 0 8)
      ok := false, mismatch := false, response := some (.okay 0) } := by
  rw [exec_eq, execNext, State.feed_eq, State.withResponse_eq, absorb_laneBytes_four]

/-! ### A word is its four lanes -/

theorem wordOfBytes_byteLanes (w : Word) : wordOfBytes (byteLane 3 w) (byteLane 2 w) (byteLane 1 w) (byteLane 0 w) = w := by
  apply BitVec.eq_of_getLsbD_eq
  intro i hi
  simp only [getLsbD_wordOfBytes, getLsbD_byteLane]
  split_ifs with h0 h1 h2
  · simp [h0]
  · simp [h1, show 8 + (i - 8) = i by omega]
  · simp [h2, show 16 + (i - 8 - 8) = i by omega]
  · simp [show i - 8 - 8 - 8 < 8 by omega, show 24 + (i - 8 - 8 - 8) = i by omega]

theorem byteReverse_injective : Function.Injective byteReverse := by
  intro w w' h
  have hlanes := congrArg (laneBytes 4) h
  simp only [byteReverse, laneBytes_wordOfBytes, List.cons.injEq, and_true] at hlanes
  obtain ⟨h0, h1, h2, h3⟩ := hlanes
  rw [← wordOfBytes_byteLanes w, ← wordOfBytes_byteLanes w', h0, h1, h2, h3]

/-- Bit i of a byte placed k bits up. -/
theorem getLsbD_shiftedByte (b : Byte) (k : Nat) {i : Nat} (hi : i < 32) :
    (b.setWidth 32 <<< k).getLsbD i = (decide (k ≤ i) && b.getLsbD (i - k)) := by
  by_cases hk : k ≤ i
  · simp (disch := omega) only [BitVec.getLsbD_shiftLeft, BitVec.getLsbD_setWidth, decide_eq_true, decide_eq_false,
      Bool.not_false, Bool.true_and]
  · simp (disch := omega) only [BitVec.getLsbD_shiftLeft, decide_eq_true, decide_eq_false, Bool.not_true, Bool.and_false,
      Bool.false_and]

/-- The byte absorbed first stands lowest, where the reflected register takes its bits first (R83): of the four bytes placed,
only the one bit i falls into has a bit there. -/
theorem byteReverse_eq_xor (w : Word) :
    byteReverse w = (byteLane 3 w).setWidth 32 <<< 0 ^^^ (byteLane 2 w).setWidth 32 <<< 8 ^^^
      (byteLane 1 w).setWidth 32 <<< 16 ^^^ (byteLane 0 w).setWidth 32 <<< 24 := by
  apply BitVec.eq_of_getLsbD_eq
  intro i hi
  simp only [byteReverse, getLsbD_wordOfBytes, BitVec.getLsbD_xor, getLsbD_shiftedByte _ _ hi]
  split_ifs with h0 h1 h2 <;>
    simp (disch := omega) only [decide_eq_true, decide_eq_false, BitVec.getLsbD_of_ge, Bool.true_and, Bool.false_and,
      Bool.xor_false, Bool.false_xor, Nat.sub_sub, Nat.sub_zero]

/-! ### Four bytes as 32 steps -/

/-- A step only shifts a word whose bit 0 is 0, so it undoes a left shift that loses no bit. -/
theorem step1_shiftLeft_one {x : Word} (h : x.getLsbD 31 = false) : step1 (x <<< 1) = x := by
  have hbit : (x <<< 1).getLsbD 0 = false := by simp
  rw [step1, hbit, if_neg Bool.false_ne_true]
  apply BitVec.eq_of_getLsbD_eq
  intro i hi
  by_cases htop : i = 31
  · rw [htop, h, BitVec.getLsbD_ushiftRight, BitVec.getLsbD_of_ge _ _ (by omega)]
  · simp (disch := omega) only [BitVec.getLsbD_ushiftRight, BitVec.getLsbD_shiftLeft, decide_eq_true, decide_eq_false,
      Bool.not_false, Bool.true_and, Nat.add_sub_cancel_left]

/-- A byte placed k bits up reaches the low end after k steps. -/
theorem steps_shiftLeft_byte (b : Byte) {k : Nat} (hk : k ≤ 24) : steps k (b.setWidth 32 <<< k) = b.setWidth 32 := by
  induction k with
  | zero => simp [steps]
  | succ k ih =>
    have htop : (b.setWidth 32 <<< k).getLsbD 31 = false := by
      rw [getLsbD_shiftedByte b k (by omega), BitVec.getLsbD_of_ge b (31 - k) (by omega), Bool.and_false]
    rw [steps, BitVec.shiftLeft_add, step1_shiftLeft_one htop, ih (by omega)]

/-- A byte absorbed after k steps may be added before them, k bits up. -/
theorem upd_steps (a : Word) (b : Byte) {k : Nat} (hk : k ≤ 24) :
    upd (steps k a) b = steps (k + 8) (a ^^^ b.setWidth 32 <<< k) := by
  rw [steps_add, steps_xor, steps_shiftLeft_byte b hk, upd]

theorem absorb_laneBytes_four_eq_steps (a w : Word) : absorb a (laneBytes 4 w) = steps 32 (a ^^^ byteReverse w) := by
  calc absorb a (laneBytes 4 w)
      = upd (upd (upd (upd (steps 0 a) (byteLane 3 w)) (byteLane 2 w)) (byteLane 1 w)) (byteLane 0 w) := rfl
    _ = steps 32 (a ^^^ byteReverse w) := by
      rw [upd_steps _ _ (by omega), upd_steps _ _ (by omega), upd_steps _ _ (by omega), upd_steps _ _ (by omega),
        byteReverse_eq_xor]
      simp only [BitVec.xor_assoc]

/-- From any accumulator the word written determines ACC and every ACC is reached: an injection of a finite type into
itself. -/
theorem absorb_laneBytes_four_bijective (a : Word) : Function.Bijective fun w => absorb a (laneBytes 4 w) := by
  apply Function.Injective.bijective_of_finite
  intro w w' h
  simp only [absorb_laneBytes_four_eq_steps] at h
  exact byteReverse_injective ((BitVec.xor_right_inj a).mp (steps_injective 32 h))

end Sys2Proof.Machine

open Sys2Proof Sys2Proof.Machine

/-- Settles O22: `exec_dataWr32_eq` and DATA's exceptions; the only word that gives 0 is so because a DATA_WR32 is
one-to-one (`absorb_laneBytes_four_bijective`) and 0xFFFFFFFF gives it. -/
theorem dataWr32Result : Obligations.DataWr32Result := by
  have hunmapped : ∀ desc ∈ ([0xC5, 0xC6, 0xC7] : List Byte), regAt (Txn.offset ⟨desc, 0⟩) = none := by decide
  have hzero : absorb 0xFFFFFFFF (laneBytes 4 0xFFFFFFFF) = 0 := by decide +kernel
  exact ⟨fun w s => ⟨decode_dataWr32 w, exec_dataWr32_eq w s⟩, fun desc w h => decode_of_regAt_none (hunmapped desc h) w,
    fun _ w h => decode_dataRead h w, exec_busErr_keeps_acc, by decide +kernel, by decide +kernel,
    fun w => hzero ▸ (absorb_laneBytes_four_bijective 0xFFFFFFFF).injective.eq_iff (a := w) (b := 0xFFFFFFFF),
    absorb_laneBytes_four_bijective⟩

/-- Settles O20: `exec_dataWr8_eq`, DATA's exceptions and R110's values. -/
theorem dataWr8Result : Obligations.DataWr8Result := by
  have hunmapped : ∀ desc ∈ ([0x85, 0x86, 0x87] : List Byte), regAt (Txn.offset ⟨desc, 0⟩) = none := by decide
  exact ⟨fun w s => ⟨decode_dataWr8 w, exec_dataWr8_eq w s⟩, fun desc w h => decode_of_regAt_none (hunmapped desc h) w,
    fun _ w h => decode_dataRead h w, exec_busErr_keeps_acc, by decide, by decide, by decide, by decide⟩

/-- Settles O21: `exec_dataWr16_eq`, DATA's exceptions and R111's value. -/
theorem dataWr16Result : Obligations.DataWr16Result := by
  have hunmapped : ∀ desc ∈ ([0xA5, 0xA6, 0xA7] : List Byte), regAt (Txn.offset ⟨desc, 0⟩) = none := by decide
  exact ⟨fun w s => ⟨decode_dataWr16 w, exec_dataWr16_eq w s⟩, fun desc w h => decode_of_regAt_none (hunmapped desc h) w,
    fun _ w h => decode_dataRead h w, exec_busErr_keeps_acc, by decide +kernel⟩

end

section
/-! PROOFS, family 43_result_check. The result and check family (spec/43_result_check.md R120 to R123): the answer of
RESULT_RD as a CRC, the two sides of the compare, what clears ERR, and the STATUS word after a compare and after a bus
error. -/

namespace Sys2Proof.Machine

open Sys2Proof

/-! ### RESULT and the compare (R120, R121) -/

/-- RESULT is the CRC of the message ACC holds (R86). -/
theorem State.result_of_holds {s : State} {m : List Byte} (h : s.Holds m) : s.result = crc32 m :=
  congrArg (· ^^^ xorOut) h

/-- Both sides of the compare, each as a whole next state. -/
theorem execNext_expectWr_eq (v : Word) (s : State) :
    execNext (.expectWr v) s = if v = s.acc ^^^ 0xFFFFFFFF
      then { s with expect := v, ok := true, mismatch := false, response := some (.okay 0) }
      else { s with expect := v, ok := false, mismatch := true, response := some (.okay 0) } := by
  rw [execNext, State.checkExpect_eq, State.withResponse_eq]
  by_cases h : v = s.acc ^^^ 0xFFFFFFFF
  · simp only [h, if_true, ne_eq, not_true, decide_true, decide_false]
  · simp only [h, if_false, ne_eq, not_false_eq_true, decide_true, decide_false]

/-! ### EXPECT (R122) -/

theorem execNext_expect_of_not_expectWr {i : Instr} (h : ∀ v, i ≠ .expectWr v) (s : State) :
    (execNext i s).expect = s.expect := by
  rw [execNext_expect]
  split
  · exact absurd rfl (h _)
  · rfl

/-! ### ERR (R123) -/

/-- Among the instructions only a CTRL_WR with CLR_ERR = 1 takes ERR from 1 to 0. -/
theorem ctrlWr_of_execNext_err_eq_false {i : Instr} {s : State} (hs : s.err = true) (h : (execNext i s).err = false) :
    ∃ w, i = .ctrlWr w ∧ w.getLsbD 1 = true := by
  have herr := congrArg Prod.fst (execNext_error i s)
  cases i with
  | ctrlWr w =>
    refine ⟨w, rfl, ?_⟩
    by_contra hclr
    simp only [h, hs, if_neg hclr, Bool.false_eq_true] at herr
  | _ => simp [h, hs] at herr

/-- Among the steps, such a CTRL_WR and reset. -/
theorem move_of_step_err_eq_false {s t : State} (h : step s = .next t) (hs : s.err = true) (ht : t.err = false) :
    (∃ inFlight rest, s.inputs = .reset inFlight :: rest) ∨
    (∃ txn rest w, s.inputs = .request txn :: rest ∧ decode txn = .ctrlWr w ∧ w.getLsbD 1 = true) := by
  obtain ⟨_, rfl⟩ | ⟨inFlight, rest, hi, _⟩ | ⟨txn, rest, hi, rfl⟩ := step_cases h
  · exact absurd (hs.symm.trans ht) (by decide)
  · exact .inl ⟨inFlight, rest, hi⟩
  · obtain ⟨w, hw, hclr⟩ := ctrlWr_of_execNext_err_eq_false (s := s.withInputs rest) hs ht
    exact .inr ⟨txn, rest, w, hi, hw, hclr⟩

/-! ### The STATUS word after an instruction (R123) -/

/-- With no bus error on record a compare leaves STATUS = 1 or STATUS = 2. -/
theorem statusWord_execNext_expectWr (v : Word) {s : State} (herr : s.err = false) (hcause : s.errCause = 0) :
    (execNext (.expectWr v) s).statusWord = if v = s.acc ^^^ 0xFFFFFFFF then 0x00000001 else 0x00000002 := by
  rw [execNext_expectWr_eq]
  split_ifs
  · simp only [State.statusWord, herr, hcause]; decide
  · simp only [State.statusWord, herr, hcause]; decide

/-- The first bus error leaves its cause and bit 2 in STATUS, beside the flags of the last compare. -/
theorem statusWord_execNext_busErr (cause : Cause) (desc : Byte) (w : Word) {s : State} (herr : s.err = false) :
    (execNext (.busErr cause desc w) s).statusWord =
      (causeCode cause ++ 0#1 ++ 1#1 ++ BitVec.ofBool s.mismatch ++ BitVec.ofBool s.ok).setWidth 32 := by
  rw [execNext, State.recordError_eq, State.withResponse_eq, State.statusWord, herr]
  rfl

/-- A STATUS_RD after an instruction answers the STATUS word the instruction left. -/
theorem statusRd_after (i : Instr) (w : Word) (s : State) :
    ∃ t, andThen (exec i s) (exec (.statusRd w)) = .next t ∧ t.response = some (.okay (execNext i s).statusWord) := by
  rw [exec_eq, andThen_next]
  exact ⟨_, exec_eq _ _, rfl⟩

end Sys2Proof.Machine

open Sys2Proof Sys2Proof.Machine

/-- Settles O23: RESULT is the CRC of the message (`State.result_of_holds`), and RESULT's descriptors stand among R162's
lists. -/
theorem resultRdResult : Obligations.ResultRdResult := by
  have hsize : [0x08, 0x28, 0x68] ⊆ sizeDescs := by decide
  have hdirection : [0x88, 0xA8, 0xC8, 0xE8] ⊆ directionDescs := by decide
  refine ⟨fun w s => ⟨decode_resultRd w, exec_eq _ s⟩, fun w s m hm => ?crc,
    fun _ w h => decode_of_mem_sizeDescs (hsize h) w, fun _ w h => decode_of_mem_directionDescs (hdirection h) w,
    fun cause desc w s => ⟨_, exec_busErr_eq cause desc w s, rfl, rfl⟩, by decide, by decide +kernel⟩
  case crc => rw [← State.result_of_holds hm]; exact exec_eq _ s

/-- Settles O24: `execNext_expectWr_eq`, and a bus error writes none of EXPECT, OK and MISMATCH. -/
theorem expectWrResult : Obligations.ExpectWrResult := by
  have hsize : [0x8C, 0xAC, 0xEC] ⊆ sizeDescs := by decide
  exact ⟨fun v s => ⟨decode_expectWr v, execNext_expectWr_eq v s ▸ exec_eq _ s⟩,
    fun _ w h => decode_of_mem_sizeDescs (hsize h) w,
    fun cause desc w s => ⟨_, exec_busErr_eq cause desc w s, rfl, rfl, rfl⟩⟩

/-- Settles O25: the EXPECT_RD row of `exec_eq`, and `execNext_expect_of_not_expectWr`. -/
theorem expectRdResult : Obligations.ExpectRdResult := by
  have hsize : [0x0C, 0x2C, 0x6C] ⊆ sizeDescs := by decide
  refine ⟨fun w s => ⟨decode_expectRd w, exec_eq _ s⟩, fun _ w h => decode_of_mem_sizeDescs (hsize h) w, rfl,
    fun i s t hi ht => ?kept⟩
  case kept =>
    rw [exec_eq] at ht
    cases ht
    exact execNext_expect_of_not_expectWr hi s

/-- Settles O26: STATUS's rows of the decoder, what a bus error records, `move_of_step_err_eq_false`, and the STATUS word
that reset, a compare and a first bus error leave. -/
theorem statusRdResult : Obligations.StatusRdResult := by
  refine ⟨fun w s => ⟨decode_statusRd w, exec_eq _ s⟩, fun _ w h => decode_status_size h w,
    fun _ w h => decode_status_direction h w, fun cause desc w s => ⟨_, exec_busErr_eq cause desc w s, rfl, ?_, ?_⟩,
    fun _ _ => move_of_step_err_eq_false, fun w => ?afterReset, fun v w s herr hcause => ?afterCompare,
    fun cause desc w w' s herr => ?afterBusErr⟩
  · exact fun herr => by rw [herr]; rfl
  · exact fun herr => if_pos herr
  case afterReset =>
    have hword : State.reset.statusWord = 0x00000000 := by decide
    rw [exec_eq, execNext, hword, State.withResponse_eq]
  case afterCompare =>
    rw [← statusWord_execNext_expectWr v herr hcause]
    exact statusRd_after _ w s
  case afterBusErr =>
    rw [← statusWord_execNext_busErr cause desc w herr]
    exact statusRd_after _ w' s

end

section
/-! PROOFS, family 60_exceptions. Bus errors (spec/60_exceptions.md R161, R163): R64's chain with each check stated by the
offset, and the effect of a bus error at the step. -/

namespace Sys2Proof

/-! ### The causes in their order (R163) -/

/-- CTRL and DATA by their offsets. -/
theorem reg_eq_ctrl_data_iff {off : BitVec 5} {reg : Reg} (h : regAt off = some reg) :
    (reg = .ctrl ↔ off.toNat = 0x00) ∧ (reg = .data ↔ off.toNat = 0x04) := by
  have hall : ∀ off : BitVec 5, ∀ reg ∈ regAt off,
      (reg = .ctrl ↔ off.toNat = 0x00) ∧ (reg = .data ↔ off.toNat = 0x04) := by decide
  exact hall off reg h

/-- R163's order with each condition stated by the offset: SIZE is one cause for both checks of the size. -/
theorem causeOf_eq_byOffset (txn : Txn) : causeOf txn =
    if txn.offset.toNat ∉ [0x00, 0x04, 0x08, 0x0C, 0x10] then some .unmapped
    else if (txn.isWrite = true ∧ txn.offset.toNat ∈ [0x08, 0x10]) ∨
        (txn.isWrite = false ∧ txn.offset.toNat ∈ [0x00, 0x04]) then some .direction
    else if txn.sizeCode = 0b11 ∨ (txn.sizeCode ≠ 0b10 ∧ txn.offset.toNat ≠ 0x04) then some .size
    else if txn.offset.toNat = 0x00 ∧ ctrlReserved txn.wdata ≠ 0 then some .rsvdBits
    else none := by
  cases hreg : regAt txn.offset with
  | none => rw [causeOf_unmapped hreg, if_pos ((regAt_eq_none_iff _).mp hreg)]
  | some reg =>
    have hmapped : ¬ txn.offset.toNat ∉ [0x00, 0x04, 0x08, 0x0C, 0x10] :=
      mt (regAt_eq_none_iff _).mpr (by simp [hreg])
    obtain ⟨hctrl, hdata⟩ := reg_eq_ctrl_data_iff hreg
    simp only [causeOf, hreg, if_neg hmapped, wrongDirection_iff hreg, ne_eq, hctrl, hdata, ite_or,
      and_comm (a := ¬ txn.sizeCode = 0b10)]

end Sys2Proof

namespace Sys2Proof.Machine

open Sys2Proof

/-! ### The effect of a bus error at the step (R161) -/

/-- The step of a transaction with a cause has the effect of the cause's bus error, and takes the move. -/
theorem step_busErr {s : State} {txn : Txn} {rest : List HostMove} {cause : Cause} (h : s.inputs = .request txn :: rest)
    (hcause : causeOf txn = some cause) :
    step s = .next { s with
      inputs := rest, err := true, errCause := if s.err then s.errCause else causeCode cause, response := some .error } := by
  rw [step_request h, decode_of_cause hcause, ← exec_eq]
  exact exec_busErr_eq cause txn.desc txn.wdata (s.withInputs rest)

end Sys2Proof.Machine

open Sys2Proof Sys2Proof.Machine

/-- Settles O12: `causeOf_eq_byOffset` within a transaction, and `exec_busErr_eq` across transactions. -/
theorem busErrorPriority : Obligations.BusErrorPriority := by
  refine ⟨causeOf_eq_byOffset, ⟨rfl, rfl, rfl, rfl⟩, fun cause desc w s t ht => ?_⟩
  rw [exec_busErr_eq] at ht
  cases ht
  exact ⟨rfl, rfl, fun herr => if_pos herr, fun herr => by rw [herr]; rfl⟩

/-- Settles O28: `exec_busErr_eq` at the instruction, `step_busErr` at the step. -/
theorem busErrorEffect : Obligations.BusErrorEffect :=
  ⟨exec_busErr_eq, fun _ _ _ _ => step_busErr, rfl⟩

end

section
/-! PROOFS, family 70_reset_and_hazards. The reset state (spec/70_reset_and_hazards.md R180): its two views STATUS and
RESULT, and that a CTRL_WR with INIT and CLR_ERR brings back all of it but EXPECT. -/

namespace Sys2Proof.Machine

open Sys2Proof

theorem State.statusWord_reset : State.reset.statusWord = 0x00000000 := by decide

theorem State.result_reset : State.reset.result = 0x00000000 := by decide

/-- INIT writes ACC and the compare flags, CLR_ERR the error record: together every register but EXPECT (R180). -/
theorem issue_initClrErrTxn (s : State) : issue initClrErrTxn s =
    .next { State.reset with expect := s.expect, inputs := s.inputs, response := some (.okay 0) } := by
  have hdecode : decode initClrErrTxn = .ctrlWr 3 := by decide
  rw [issue_eq, hdecode]
  rfl

/-- RESULT_RD answers RESULT and writes no register (R120). -/
theorem exec_resultRd_eq (w : Word) (s : State) :
    exec (.resultRd w) s = .next { s with response := some (.okay s.result) } :=
  exec_eq (.resultRd w) s

end Sys2Proof.Machine

open Sys2Proof Sys2Proof.Machine

/-- Settles O30: the register values are `State.reset`'s own; its STATUS and RESULT views, and `issue_initClrErrTxn`. -/
theorem resetState : Obligations.ResetState := by
  refine ⟨rfl, rfl, rfl, rfl, rfl, rfl, State.statusWord_reset, fun w => ?resultRead, issue_initClrErrTxn⟩
  case resultRead => rw [exec_resultRd_eq, State.result_reset]

end

section
/-! PROOFS, family other: encoding. Each cause on exactly R162's descriptors (spec/60_exceptions.md), so that decoder and
encoder are inverse (spec/30_encoding.md R60 to R64), and what a legal access names (spec/20_memory.md R45). -/

namespace Sys2Proof

/-! ### Causes and R162's lists -/

theorem causeOfDesc_eq_unmapped_iff (reservedSet : Bool) (desc : Byte) :
    causeOfDesc reservedSet desc = some .unmapped ↔ (!mappedOffsets.contains (desc.toNat % 32)) = true := by
  revert desc reservedSet; decide +kernel

theorem causeOfDesc_eq_direction_iff (reservedSet : Bool) (desc : Byte) :
    causeOfDesc reservedSet desc = some .direction ↔ directionDescs.contains desc = true := by
  revert desc reservedSet; decide +kernel

theorem causeOfDesc_eq_size_iff (reservedSet : Bool) (desc : Byte) :
    causeOfDesc reservedSet desc = some .size ↔ sizeDescs.contains desc = true := by
  revert desc reservedSet; decide +kernel

theorem causeOfDesc_eq_rsvdBits_iff (reservedSet : Bool) (desc : Byte) :
    causeOfDesc reservedSet desc = some .rsvdBits ↔ desc = 0xC0 ∧ reservedSet = true := by
  revert desc reservedSet; decide +kernel

/-- R64's chain of checks gives a cause exactly where R162's table lists it. -/
theorem causeOf_eq_some_iff (t : Txn) (cause : Cause) :
    causeOf t = some cause ↔ cause.raisedBy t.desc t.wdata = true := by
  rw [causeOf_eq]
  cases cause with
  | unmapped => exact causeOfDesc_eq_unmapped_iff _ _
  | direction => exact causeOfDesc_eq_direction_iff _ _
  | size => exact causeOfDesc_eq_size_iff _ _
  | rsvdBits =>
    rw [causeOfDesc_eq_rsvdBits_iff]
    simp only [Cause.raisedBy, Bool.and_eq_true, beq_iff_eq, decide_eq_true_eq, ne_eq, ctrlReserved_eq_zero_iff, not_lt]

/-- The legal transactions, by descriptor. -/
theorem desc_mem_of_legal {t : Txn} (h : causeOf t = none) :
    t.desc ∈ [0xC0, 0x84, 0xA4, 0xC4, 0x48, 0xCC, 0x4C, 0x50] ∧ (t.desc = 0xC0 → ctrlReserved t.wdata = 0) := by
  obtain ⟨hmem, hctrl⟩ := causeOfDesc_none _ _ ((causeOf_eq t).symm.trans h)
  exact ⟨hmem, fun hdesc => by simpa using hctrl hdesc⟩

/-! ### Decoder and encoder -/

theorem rowOf_ne_busErr (reg : Reg) (write : Bool) (sz : BitVec 2) (w : Word) (cause : Cause) (desc : Byte) (w' : Word) :
    rowOf reg write sz w ≠ .busErr cause desc w' := by
  cases reg with
  | ctrl => exact Instr.noConfusion
  | data => simp only [rowOf]; split_ifs <;> exact Instr.noConfusion
  | result => exact Instr.noConfusion
  | expect => simp only [rowOf]; split_ifs <;> exact Instr.noConfusion
  | status => exact Instr.noConfusion

/-- A bus error carries the decoder's cause. -/
theorem decode_eq_busErr_iff (t : Txn) (cause : Cause) :
    decode t = .busErr cause t.desc t.wdata ↔ causeOf t = some cause := by
  refine ⟨fun h => ?_, decode_of_cause⟩
  cases hc : causeOf t with
  | some cause' =>
    rw [decode_of_cause hc] at h
    injection h with hcause
    rw [hcause]
  | none =>
    obtain ⟨reg, -, -, -, hdecode⟩ := decode_of_legal hc
    exact absurd (hdecode.symm.trans h) (rowOf_ne_busErr _ _ _ _ _ _ _)

theorem decode_encode {i : Instr} (h : i.wf = true) : decode (encode i) = i := by
  cases i with
  | ctrlWr w =>
    rw [Laws.EncodeDescriptor.ctrlWr w]
    exact decode_ctrlWr ((ctrlReserved_eq_zero_iff w).mpr (of_decide_eq_true h))
  | dataWr8 w => rw [Laws.EncodeDescriptor.dataWr8 w]; exact decode_dataWr8 w
  | dataWr16 w => rw [Laws.EncodeDescriptor.dataWr16 w]; exact decode_dataWr16 w
  | dataWr32 w => rw [Laws.EncodeDescriptor.dataWr32 w]; exact decode_dataWr32 w
  | resultRd w => rw [Laws.EncodeDescriptor.resultRd w]; exact decode_resultRd w
  | expectWr w => rw [Laws.EncodeDescriptor.expectWr w]; exact decode_expectWr w
  | expectRd w => rw [Laws.EncodeDescriptor.expectRd w]; exact decode_expectRd w
  | statusRd w => rw [Laws.EncodeDescriptor.statusRd w]; exact decode_statusRd w
  | busErr cause desc w => exact decode_of_cause ((causeOf_eq_some_iff ⟨desc, w⟩ cause).mpr h)

/-- Each legal transaction is that of a well-formed instruction. -/
theorem exists_wf_of_legal {t : Txn} (h : causeOf t = none) : ∃ i : Instr, i.wf = true ∧ encode i = t := by
  obtain ⟨desc, w⟩ := t
  obtain ⟨hmem, hctrl⟩ := desc_mem_of_legal h
  simp only [List.mem_cons, List.not_mem_nil, or_false] at hmem
  rcases hmem with rfl | rfl | rfl | rfl | rfl | rfl | rfl | rfl
  · exact ⟨.ctrlWr w, decide_eq_true ((ctrlReserved_eq_zero_iff w).mp (hctrl rfl)), Laws.EncodeDescriptor.ctrlWr w⟩
  · exact ⟨.dataWr8 w, rfl, Laws.EncodeDescriptor.dataWr8 w⟩
  · exact ⟨.dataWr16 w, rfl, Laws.EncodeDescriptor.dataWr16 w⟩
  · exact ⟨.dataWr32 w, rfl, Laws.EncodeDescriptor.dataWr32 w⟩
  · exact ⟨.resultRd w, rfl, Laws.EncodeDescriptor.resultRd w⟩
  · exact ⟨.expectWr w, rfl, Laws.EncodeDescriptor.expectWr w⟩
  · exact ⟨.expectRd w, rfl, Laws.EncodeDescriptor.expectRd w⟩
  · exact ⟨.statusRd w, rfl, Laws.EncodeDescriptor.statusRd w⟩

/-- So is every transaction: an illegal one is that of its bus error. -/
theorem exists_wf_encode_eq (t : Txn) : ∃ i : Instr, i.wf = true ∧ encode i = t := by
  cases hc : causeOf t with
  | some cause => exact ⟨.busErr cause t.desc t.wdata, (causeOf_eq_some_iff t cause).mp hc, rfl⟩
  | none => exact exists_wf_of_legal hc

/-! ### The fields of the descriptor (R60) -/

theorem packDesc_fields (t : Txn) : packDesc t.isWrite t.sizeCode t.offset = t.desc := by
  have hall : ∀ desc : Byte,
      packDesc (Txn.isWrite ⟨desc, 0⟩) (Txn.sizeCode ⟨desc, 0⟩) (Txn.offset ⟨desc, 0⟩) = desc := by decide
  exact hall t.desc

/-! ### Alignment (R45) -/

/-- A legal access is at a multiple of 4 and of its size. -/
theorem legal_aligned {t : Txn} (h : causeOf t = none) :
    t.offset.toNat % 4 = 0 ∧ ∃ n, accessBytes t.sizeCode = some n ∧ t.offset.toNat % n = 0 := by
  have hall : ∀ desc ∈ ([0xC0, 0x84, 0xA4, 0xC4, 0x48, 0xCC, 0x4C, 0x50] : List Byte),
      (Txn.offset ⟨desc, 0⟩).toNat % 4 = 0 ∧
      ∃ n ∈ accessBytes (Txn.sizeCode ⟨desc, 0⟩), (Txn.offset ⟨desc, 0⟩).toNat % n = 0 := by decide
  exact hall t.desc (desc_mem_of_legal h).1

theorem causeOf_eq_unmapped_iff (t : Txn) :
    causeOf t = some .unmapped ↔ t.offset.toNat ∉ [0x00, 0x04, 0x08, 0x0C, 0x10] := by
  refine ⟨fun h hmem => ?_, fun h => causeOf_unmapped ((regAt_eq_none_iff _).mpr h)⟩
  rw [causeOf_eq_byOffset, if_neg (not_not.mpr hmem)] at h
  split_ifs at h <;> cases h

end Sys2Proof

open Sys2Proof Sys2Proof.Machine

/-- Settles O15: row by row, with the decoder's lemma for each row of R63. -/
theorem decodeAfterEncode : Obligations.DecodeAfterEncode := fun _ => decode_encode

/-- Settles O16: every transaction is that of a well-formed instruction, which the decoder gives back. -/
theorem encodeAfterDecode : Obligations.EncodeAfterDecode := by
  intro txn
  obtain ⟨i, hwf, rfl⟩ := exists_wf_encode_eq txn
  rw [decode_encode hwf]
  exact ⟨hwf, rfl⟩

/-- Settles O13: `causeOf_eq_some_iff`, and R64's counts over the 256 descriptors. -/
theorem causesMatchDescriptorLists : Obligations.CausesMatchDescriptorLists :=
  ⟨causeOf_eq_some_iff, by decide +kernel, by decide +kernel, by decide +kernel, by decide +kernel⟩

/-- Settles O11: UNMAPPED by offset, and the eight legal descriptors. -/
theorem accessNamesRegisterExactly : Obligations.AccessNamesRegisterExactly :=
  ⟨fun txn => (causeOf_eq_unmapped_iff txn).symm.trans (decode_eq_busErr_iff txn .unmapped).symm, fun _ => legal_aligned⟩

/-- Settles O7: the fields of a packed descriptor, and `issue_read_wdata` for a descriptor packed from its own fields. -/
theorem descriptorFields : Obligations.DescriptorFields := by
  refine ⟨fun we sz off w => ⟨?bit7, ?bits65, ?bits40, ?bit7, ?bits65, ?bits40⟩, packDesc_fields,
    fun desc w w' s hread => ?read⟩
  case bit7 => exact isWrite_packDesc we sz off w
  case bits65 => exact sizeCode_packDesc we sz off w
  case bits40 => exact offset_packDesc we sz off w
  case read =>
    have hpack : packDesc false (Txn.sizeCode ⟨desc, 0⟩) (Txn.offset ⟨desc, 0⟩) = desc :=
      (congrArg (packDesc · _ _) hread).symm.trans (packDesc_fields ⟨desc, 0⟩)
    rw [← hpack]
    exact issue_read_wdata _ _ w w' s

/-- Settles O14: each word is one of R63's rows, or of R162's lists. -/
theorem decodedWords : Obligations.DecodedWords :=
  ⟨decode_ctrlWr (by decide), decode_dataWr16 _, decode_resultRd _, decode_statusRd _, decode_of_regAt_none (by decide) _,
    decode_dataRead (by decide) _, decode_ctrlWr_reserved (by decide)⟩

end

section
/-! PROOFS, family other: the invariants of STATUS (spec/10_state.md R25), kept by every step. -/

namespace Sys2Proof.Machine

open Sys2Proof

/-- R25 (a): only a compare sets a flag, and it sets one of the two. -/
theorem execNext_keeps_exclusive (i : Instr) {s : State} (h : ¬(s.ok = true ∧ s.mismatch = true)) :
    ¬((execNext i s).ok = true ∧ (execNext i s).mismatch = true) := by
  have hpair := execNext_compare i s
  cases i with
  | ctrlWr w => dsimp only at hpair; split_ifs at hpair <;> simp_all
  | expectWr v => dsimp only at hpair; split_ifs at hpair <;> simp_all
  | _ => simp_all

/-- R25 (b) and (c): ERR and ERR_CAUSE are written together, by a cause's code (1 to 4) or by CLR_ERR. -/
theorem execNext_keeps_cause (i : Instr) {s : State} (h : (s.errCause = 0 ↔ s.err = false) ∧ s.errCause.toNat ≤ 4) :
    ((execNext i s).errCause = 0 ↔ (execNext i s).err = false) ∧ (execNext i s).errCause.toNat ≤ 4 := by
  have hpair := execNext_error i s
  cases i with
  | ctrlWr w => dsimp only at hpair; split_ifs at hpair <;> simp_all
  | busErr cause desc w =>
    have hcode := causeCode_ne_zero cause
    have hle := causeCode_le_four cause
    dsimp only at hpair; split_ifs at hpair <;> simp_all
  | _ => simp_all

/-- R25 (d), in every state: bits 3 and 31:7 of STATUS are hardwired 0 (R23). -/
theorem State.statusWord_and_reserved (s : State) : s.statusWord &&& 0xFFFFFF88 = 0 := by
  have hmask : ∀ k < 3, (0xFFFFFF88 : Word).getLsbD (k + 4) = false := by decide
  apply BitVec.eq_of_getLsbD_eq
  intro i _
  rw [BitVec.getLsbD_and, State.getLsbD_statusWord]
  match i with
  | 0 => simp
  | 1 => simp
  | 2 => simp
  | 3 => simp
  | k + 4 =>
    by_cases hk : k < 3
    · rw [hmask k hk, Bool.and_false]; exact BitVec.getLsbD_zero.symm
    · simp [BitVec.getLsbD_of_ge s.errCause k (by omega)]

theorem execNext_keeps_inv (i : Instr) {s : State} (h : s.Inv) : (execNext i s).Inv := by
  obtain ⟨hflags, hcause, hle, -⟩ := h
  obtain ⟨hcause', hle'⟩ := execNext_keeps_cause i ⟨hcause, hle⟩
  exact ⟨execNext_keeps_exclusive i hflags, hcause', hle', State.statusWord_and_reserved _⟩

theorem State.inv_reset : State.reset.Inv := by decide

/-- The invariants speak of the registers; the idle step and reset write only the port beside them. -/
theorem step_keeps_inv {s t : State} (h : s.Inv) (ht : step s = .next t) : t.Inv := by
  obtain ⟨-, rfl⟩ | ⟨_, rest, -, rfl⟩ | ⟨txn, rest, -, rfl⟩ := step_cases ht
  · exact h
  · exact State.inv_reset
  · exact execNext_keeps_inv (s := s.withInputs rest) _ h

/-- R25 along every run from reset. -/
theorem Reachable.inv {s : State} (h : Reachable s) : s.Inv := by
  induction h with
  | reset => exact State.inv_reset
  | present s moves _ ih => exact ih
  | step s t _ ht ih => exact step_keeps_inv ih ht

end Sys2Proof.Machine

open Sys2Proof Sys2Proof.Machine

/-- Settles O36: by evaluation of the reset state. -/
theorem invariantsAtReset : Obligations.InvariantsAtReset := State.inv_reset

/-- Settles O37: `step_keeps_inv`. -/
theorem stepKeepsInvariants : Obligations.StepKeepsInvariants := fun _ _ => step_keeps_inv

/-- Settles O38: `Reachable.inv`. -/
theorem reachableStatesMeetInvariants : Obligations.ReachableStatesMeetInvariants := fun _ => Reachable.inv

end

section
/-! PROOFS, family other: runs. The step for each kind of move (spec/20_memory.md R49), k steps over k moves, and a sequence
of transactions as the sequence of the instructions they decode to. -/

namespace Sys2Proof.Machine

open Sys2Proof

/-! ### Moves -/

/-- The state after one move of the host, the moves still presented left as they are. -/
def moveNext (move : HostMove) (s : State) : State :=
  match move with
  | .request txn => execNext (decode txn) s
  | .reset inFlight => s.assertReset inFlight

/-- No instruction reads the moves still presented. -/
theorem execNext_withInputs (i : Instr) (l : List HostMove) (s : State) :
    execNext i (s.withInputs l) = (execNext i s).withInputs l := by
  cases i with
  | busErr cause desc w => simp only [execNext, State.recordError_eq]; rfl
  | _ => rfl

theorem moveNext_withInputs (move : HostMove) (l : List HostMove) (s : State) :
    moveNext move (s.withInputs l) = (moveNext move s).withInputs l := by
  cases move with
  | request txn => exact execNext_withInputs _ l s
  | reset inFlight => rfl

theorem step_move (move : HostMove) (rest : List HostMove) (s : State) :
    step (s.withInputs (move :: rest)) = .next ((moveNext move s).withInputs rest) := by
  rw [← moveNext_withInputs]
  cases move with
  | request txn => exact step_request rfl
  | reset inFlight => exact step_reset rfl

/-- The state after a list of moves. -/
def movesNext (moves : List HostMove) (s : State) : State := moves.foldl (fun s move => moveNext move s) s

@[simp] theorem movesNext_cons (move : HostMove) (moves : List HostMove) (s : State) :
    movesNext (move :: moves) s = movesNext moves (moveNext move s) := rfl

/-- One move is taken a step. -/
theorem runSteps_moves (moves rest : List HostMove) (s : State) :
    runSteps moves.length (s.withInputs (moves ++ rest)) = .next ((movesNext moves s).withInputs rest) := by
  induction moves generalizing s with
  | nil => rfl
  | cons move moves ih => rw [List.length_cons, runSteps, List.cons_append, step_move, andThen_next, ih, movesNext_cons]

/-! ### Sequences of instructions -/

/-- The state after a list of instructions. -/
def execAll (is : List Instr) (s : State) : State := is.foldl (fun s i => execNext i s) s

@[simp] theorem execAll_nil (s : State) : execAll [] s = s := rfl

@[simp] theorem execAll_cons (i : Instr) (is : List Instr) (s : State) :
    execAll (i :: is) s = execAll is (execNext i s) := rfl

theorem execAll_append (is is' : List Instr) (s : State) : execAll (is ++ is') s = execAll is' (execAll is s) :=
  List.foldl_append

theorem execAll_withInputs (is : List Instr) (l : List HostMove) (s : State) :
    execAll is (s.withInputs l) = (execAll is s).withInputs l := by
  induction is generalizing s with
  | nil => rfl
  | cons i is ih => rw [execAll_cons, execNext_withInputs, ih, execAll_cons]

/-- Issuing transactions is executing what they decode to, one after another. -/
theorem issueAll_eq (txns : List Txn) (s : State) : issueAll txns s = .next (execAll (txns.map decode) s) := by
  induction txns generalizing s with
  | nil => rfl
  | cons txn txns ih => rw [issueAll, issue_eq, andThen_next, ih, List.map_cons, execAll_cons]

/-- The transactions of well-formed instructions run those instructions. -/
theorem issueAll_encode {is : List Instr} (h : ∀ i ∈ is, i.wf = true) (s : State) :
    issueAll (is.map encode) s = .next (execAll is s) := by
  have hdecode : (is.map encode).map decode = is := by
    rw [List.map_map]
    exact (List.map_congr_left fun i hi => decode_encode (h i hi)).trans (List.map_id is)
  rw [issueAll_eq, hdecode]

theorem movesNext_requests (txns : List Txn) (s : State) :
    movesNext (txns.map .request) s = execAll (txns.map decode) s := by
  simp only [movesNext, execAll, List.foldl_map, moveNext]

/-! ### Answers -/

/-- A legal transaction answers okay. -/
theorem response_rowOf (reg : Reg) (write : Bool) (sz : BitVec 2) (w : Word) (s : State) :
    ∃ v, (execNext (rowOf reg write sz w) s).response = some (.okay v) := by
  cases reg with
  | ctrl => exact ⟨0, rfl⟩
  | data => refine ⟨0, ?_⟩; simp only [rowOf]; split_ifs <;> rfl
  | result => exact ⟨s.result, rfl⟩
  | expect => cases write with
    | true => exact ⟨0, rfl⟩
    | false => exact ⟨s.expect, rfl⟩
  | status => exact ⟨s.statusWord, rfl⟩

/-- The answer is error exactly where the decoder has a cause. -/
theorem response_eq_error_iff (t : Txn) (s : State) :
    (execNext (decode t) s).response = some .error ↔ causeOf t ≠ none := by
  cases hc : causeOf t with
  | some cause => rw [decode_of_cause hc]; simp [execNext]
  | none =>
    obtain ⟨reg, -, -, -, hdecode⟩ := decode_of_legal hc
    obtain ⟨v, hv⟩ := response_rowOf reg t.isWrite t.sizeCode t.wdata s
    rw [hdecode, hv]
    simp

theorem response_of_legal_write {t : Txn} (h : causeOf t = none) (hw : t.isWrite = true) (s : State) :
    (execNext (decode t) s).response = some (.okay 0) :=
  (response_of_write hw s).resolve_right fun herror => (response_eq_error_iff t s).mp herror h

/-! ### What an instruction reads and repeats -/

/-- The answer of every instruction but STATUS_RD, and what it does to ACC and EXPECT, depend on ACC and EXPECT only
(R31). -/
theorem execNext_congr (i : Instr) {s s' : State} (hacc : s'.acc = s.acc) (hexpect : s'.expect = s.expect) :
    (execNext i s').acc = (execNext i s).acc ∧ (execNext i s').expect = (execNext i s).expect ∧
    ((∀ w, i ≠ .statusRd w) → (execNext i s').response = (execNext i s).response) := by
  refine ⟨?_, ?_, fun hi => ?_⟩
  · rw [execNext_acc, execNext_acc, hacc]
  · rw [execNext_expect, execNext_expect, hexpect]
  · cases i with
    | resultRd w => simp only [execNext, State.response_withResponse, State.result, hacc]
    | expectRd w => simp only [execNext, State.response_withResponse, hexpect]
    | statusRd w => exact absurd rfl (hi w)
    | _ => simp only [execNext, State.response_withResponse]

/-- Every instruction but a DATA write writes what a second one finds in place (R47). -/
theorem execNext_idem {i : Instr} (h : isDataWrite i = false) (s : State) : execNext i (execNext i s) = execNext i s := by
  cases i with
  | ctrlWr w => exact execNext_ctrlWr_idem w s
  | dataWr8 w => cases h
  | dataWr16 w => cases h
  | dataWr32 w => cases h
  | busErr cause desc w => simp only [execNext, State.recordError_eq]; rfl
  | _ => rfl

/-- CTRL_WR reads bits 0 and 1 of its operand alone. -/
theorem execNext_ctrlWr_congr {w w' : Word} (h : w.extractLsb' 0 2 = w'.extractLsb' 0 2) (s : State) :
    execNext (.ctrlWr w) s = execNext (.ctrlWr w') s := by
  have hbit : ∀ i < 2, w.getLsbD i = w'.getLsbD i := fun i hi => by
    simpa [BitVec.getLsbD_extractLsb', hi] using congrArg (BitVec.getLsbD · i) h
  simp only [execNext, hbit 0 (by omega), hbit 1 (by omega)]

end Sys2Proof.Machine

open Sys2Proof Sys2Proof.Machine

/-- Settles O1: `exec` is `execNext`, and the step is `step_request`. -/
theorem stepRunsDecodedTransaction : Obligations.StepRunsDecodedTransaction := fun s _ rest h =>
  (step_request h).trans (exec_eq _ (s.withInputs rest)).symm

/-- Settles O2: `step_reset`, and the first branch of a clock edge. -/
theorem resetDropsTransactionInFlight : Obligations.ResetDropsTransactionInFlight :=
  ⟨fun _ _ _ h => step_reset h, fun p q hrst => by rw [clockEdge, if_pos hrst, State.assertReset_eq]; rfl⟩

/-- Settles O3: `step_idle`. -/
theorem idleStepKeepsEveryRegister : Obligations.IdleStepKeepsEveryRegister := fun _ => step_idle

/-- Settles O4: one move is taken a step (`runSteps_moves`). -/
theorem everyMoveIsTaken : Obligations.EveryMoveIsTaken := fun moves rest s =>
  ⟨_, runSteps_moves moves rest s, rfl⟩

/-- Settles O5: the answers of `execNext` on what a transaction decodes to. -/
theorem everyTransactionIsAnswered : Obligations.EveryTransactionIsAnswered := by
  intro s txn
  obtain ⟨r, hr⟩ := execNext_answers (decode txn) s
  exact ⟨_, issue_eq txn s, execNext_inputs _ s, response_eq_error_iff txn s, fun h hw => response_of_legal_write h hw s,
    hr ▸ Option.some_ne_none r⟩

/-- Settles O6: both the queue and the issued sequence are `execAll` of what they decode to. -/
theorem sequenceIsStepAfterStep : Obligations.SequenceIsStepAfterStep := by
  refine ⟨fun txns rest s => ?queue, fun txns txns' s => ?parts⟩
  case queue =>
    have hrun := runSteps_moves (txns.map HostMove.request) rest s
    rw [List.length_map, movesNext_requests, ← execAll_withInputs] at hrun
    exact hrun.trans (issueAll_eq txns (s.withInputs rest)).symm
  case parts => simp only [issueAll_eq, andThen_next, List.map_append, execAll_append]

/-- Settles O29: the record of `exec_busErr_eq`, and CLR_ERR between. -/
theorem clearErrorRearms : Obligations.ClearErrorRearms := by
  have hdecode : decode clrErrTxn = .ctrlWr 2 := by decide
  intro s c1 c2 d1 d2 w1 w2
  refine ⟨_, _, _, exec_busErr_eq c1 d1 w1 s, exec_busErr_eq c2 d2 w2 _, rfl, ?_, rfl⟩
  rw [issue_eq, hdecode, andThen_next, exec_busErr_eq]
  rfl

/-- Settles O34: `execNext_congr`. -/
theorem flagsReadOnlyByStatusRd : Obligations.FlagsReadOnlyByStatusRd := by
  intro i s s' t t' hacc hexpect hinputs ht ht'
  rw [exec_eq] at ht ht'
  cases ht; cases ht'
  obtain ⟨hacc', hexpect', hresponse⟩ := execNext_congr i hacc hexpect
  exact ⟨hacc', hexpect', by rw [execNext_inputs, execNext_inputs, hinputs], hresponse⟩

/-- Settles O35: the rows of the reads, `execNext_idem`, and a byte fed twice after reset. -/
theorem sideEffectsAndIdempotency : Obligations.SideEffectsAndIdempotency := by
  refine ⟨fun w i s hi => ?reads, fun txn s t u hi ht hu => ?twice, fun desc hdesc => ?dataWrite⟩
  case reads =>
    simp only [List.mem_cons, List.not_mem_nil, or_false] at hi
    rcases hi with rfl | rfl | rfl
    · exact ⟨s.result, exec_eq _ s⟩
    · exact ⟨s.expect, exec_eq _ s⟩
    · exact ⟨s.statusWord, exec_eq _ s⟩
  case twice =>
    rw [issue_eq] at ht hu
    cases ht; cases hu
    exact execNext_idem hi s
  case dataWrite =>
    refine ⟨0x52, State.reset, _, _, issue_eq _ _, issue_eq _ _, ?_⟩
    revert desc; decide +kernel

/-- Settles O59: `execNext_ctrlWr_congr`, the CTRL_WR row of `exec_eq`, and `execNext_ctrlWr_idem`. -/
theorem ctrlWrIgnoresReservedBits : Obligations.CtrlWrIgnoresReservedBits := by
  refine ⟨fun w w' s h => ?_, fun w s => exec_eq (.ctrlWr w) s, fun w s t ht => ?_⟩
  · rw [exec_eq, exec_eq, execNext_ctrlWr_congr h]
  · rw [exec_eq] at ht
    cases ht
    rw [exec_eq, execNext_ctrlWr_idem]

end

section
/-! PROOFS, family other: messages. The split law (spec/40_crc_function.md R88), ACC as that of the message over any moves
of the host (spec/00_scope.md R9), every split of a message (spec/42_data.md R113), and the laws of the generator and the
validator (spec/43_result_check.md R124, R125). -/

namespace Sys2Proof.Machine

open Sys2Proof

/-! ### The split law (R88) -/

theorem absorb_append (a : Word) (m n : List Byte) : absorb a (m ++ n) = absorb (absorb a m) n := by
  induction m generalizing a with
  | nil => rfl
  | cons b m ih => exact ih (upd a b)

/-! ### ACC and the message (R9, R86) -/

/-- An instruction either starts a message or extends it by the bytes it feeds. -/
theorem execNext_acc_eq_absorb (i : Instr) (s : State) :
    (execNext i s).acc = if startsMessage i then initValue else absorb s.acc (fedBytes i) := by
  cases i with
  | busErr cause desc w => exact execNext_acc (.busErr cause desc w) s
  | _ => rfl

theorem State.Holds.execNext_of_not_startsMessage {s : State} {m : List Byte} (h : s.Holds m) {i : Instr}
    (hi : startsMessage i = false) : (execNext i s).Holds (m ++ fedBytes i) := by
  rw [State.Holds, execNext_acc_eq_absorb, hi, if_neg Bool.false_ne_true, h, absorb_append]

theorem State.Holds.execNext_of_startsMessage {s : State} {i : Instr} (hi : startsMessage i = true) :
    (execNext i s).Holds [] := by
  rw [State.Holds, execNext_acc_eq_absorb, hi, if_pos rfl, absorb]

theorem State.Holds.moveNext {s : State} {m : List Byte} (h : s.Holds m) (move : HostMove) :
    (Machine.moveNext move s).Holds (messageStep m move) := by
  cases move with
  | request txn =>
    rw [messageStep]
    split_ifs with hi
    · exact State.Holds.execNext_of_startsMessage hi
    · exact h.execNext_of_not_startsMessage (Bool.eq_false_of_not_eq_true hi)
  | reset inFlight => exact (rfl : initValue = absorb initValue [])

theorem State.Holds.movesNext {s : State} {m : List Byte} (h : s.Holds m) (moves : List HostMove) :
    (Machine.movesNext moves s).Holds (messageAfter m moves) := by
  induction moves generalizing s m with
  | nil => exact h
  | cons move moves ih => exact ih (h.moveNext move)

/-- With no INIT among them, instructions extend the message by all they feed. -/
theorem State.Holds.execAll {s : State} {m : List Byte} (h : s.Holds m) {is : List Instr}
    (his : ∀ i ∈ is, startsMessage i = false) : (Machine.execAll is s).Holds (m ++ is.flatMap fedBytes) := by
  induction is generalizing s m with
  | nil => simpa using h
  | cons i is ih =>
    rw [List.flatMap_cons, ← List.append_assoc]
    exact ih (h.execNext_of_not_startsMessage (his i List.mem_cons_self)) fun j hj => his j (List.mem_cons_of_mem i hj)

theorem State.holds_reset : State.reset.Holds [] := rfl

/-- INIT and then instructions that are no INIT: the message is what they feed. -/
theorem holds_execAll_init {is : List Instr} (his : ∀ i ∈ is, startsMessage i = false) (s : State) :
    (execAll (.ctrlWr 1 :: is) s).Holds (is.flatMap fedBytes) :=
  (State.Holds.execNext_of_startsMessage (i := .ctrlWr 1) (s := s) rfl).execAll his

/-! ### DATA writes (R113) -/

/-- The three DATA writes are one operation on the bytes they feed. -/
theorem execNext_dataWrite {i : Instr} (h : isDataWrite i = true) (s : State) :
    execNext i s = (s.feed (fedBytes i)).withResponse (some (.okay 0)) := by
  cases i with
  | dataWr8 w => rfl
  | dataWr16 w => rfl
  | dataWr32 w => rfl
  | _ => cases h

/-- A sequence of DATA writes feeds its bytes in order and writes nothing else. -/
theorem execAll_dataWrites {is : List Instr} (his : ∀ i ∈ is, isDataWrite i = true) (s : State) :
    execAll is s = if is = [] then s else (s.feed (is.flatMap fedBytes)).withResponse (some (.okay 0)) := by
  induction is generalizing s with
  | nil => rfl
  | cons i is ih =>
    rw [execAll_cons, ih (fun j hj => his j (List.mem_cons_of_mem i hj)), execNext_dataWrite (his i List.mem_cons_self),
      if_neg (List.cons_ne_nil i is), List.flatMap_cons]
    split_ifs with hnil
    · simp [hnil]
    · simp only [State.feed_eq, State.withResponse_eq, absorb_append]

theorem wf_of_isDataWrite {i : Instr} (h : isDataWrite i = true) : i.wf = true := by
  cases i with
  | dataWr8 w => rfl
  | dataWr16 w => rfl
  | dataWr32 w => rfl
  | _ => cases h

/-! ### RESULT_RD and EXPECT_WR after a message (R124, R125) -/

theorem response_resultRd_of_holds {s : State} {m : List Byte} (h : s.Holds m) (w : Word) :
    (execNext (.resultRd w) s).response = some (.okay (crc32 m)) := by
  rw [← State.result_of_holds h]; rfl

/-- EXPECT_WR compares with the CRC of the message. -/
theorem execNext_expectWr_of_holds {s : State} {m : List Byte} (h : s.Holds m) (v : Word) :
    execNext (.expectWr v) s =
      { s with expect := v, ok := decide (v = crc32 m), mismatch := decide (v ≠ crc32 m), response := some (.okay 0) } := by
  rw [← State.result_of_holds h]; rfl

/-- Well-formed instructions, then one more, issued. -/
theorem issueAll_encode_append {is : List Instr} (his : ∀ i ∈ is, i.wf = true) {i : Instr} (hi : i.wf = true)
    (s : State) : issueAll (is.map encode ++ [encode i]) s = .next (execNext i (execAll is s)) := by
  have hall : ∀ j ∈ is ++ [i], j.wf = true := by
    intro j hj
    rcases List.mem_append.mp hj with h | h
    · exact his j h
    · rw [List.mem_singleton.mp h, hi]
  have hissue := issueAll_encode hall s
  rwa [List.map_append, execAll_append] at hissue

/-- The two situations of R124 and R125: the instructions follow an INIT, or reset. -/
theorem issueAll_message {is : List Instr} (his : ∀ i ∈ is, i.wf = true ∧ startsMessage i = false) {i : Instr}
    (hi : i.wf = true) {P : State → Prop} (hP : ∀ s : State, s.Holds (is.flatMap fedBytes) → P (execNext i s)) :
    (∀ s : State, ∃ t, issueAll (initTxn :: is.map encode ++ [encode i]) s = .next t ∧ P t) ∧
    (∃ t, issueAll (is.map encode ++ [encode i]) State.reset = .next t ∧ P t) := by
  have hwf : ∀ j ∈ is, j.wf = true := fun j hj => (his j hj).1
  have hno : ∀ j ∈ is, startsMessage j = false := fun j hj => (his j hj).2
  have hinit : ∀ j ∈ Instr.ctrlWr 1 :: is, j.wf = true := List.forall_mem_cons.mpr ⟨by decide, hwf⟩
  exact ⟨fun s => ⟨_, issueAll_encode_append hinit hi s, hP _ (holds_execAll_init hno s)⟩,
    ⟨_, issueAll_encode_append hwf hi _, hP _ (State.holds_reset.execAll hno)⟩⟩

end Sys2Proof.Machine

open Sys2Proof Sys2Proof.Machine

/-- Settles O41: `absorb_append`; the CRC of the empty message by evaluation. -/
theorem absorbSplit : Obligations.AbsorbSplit := ⟨absorb_append, by decide⟩

/-- Settles O47: every move keeps `Holds` for the message it gives (`State.Holds.moveNext`). -/
theorem accumulatorTracksMessage : Obligations.AccumulatorTracksMessage := fun moves rest _ s h =>
  ⟨_, runSteps_moves moves rest s, h.movesNext moves⟩

/-- Settles O46: DATA writes as one operation (`execAll_dataWrites`). -/
theorem everySplitIsTheSame : Obligations.EverySplitIsTheSame := by
  intro writes s h
  refine ⟨_, issueAll_encode (fun i hi => wf_of_isDataWrite (h i hi)) s, ?_⟩
  rw [execAll_dataWrites h]
  split_ifs with hnil
  · subst hnil
    exact ⟨rfl, rfl, rfl, rfl, rfl, absurd rfl, fun _ => rfl⟩
  · exact ⟨rfl, rfl, rfl, rfl, rfl, fun _ => ⟨rfl, rfl, rfl⟩, fun h => absurd h hnil⟩

/-- Settles O48: RESULT_RD on a state that holds the message. -/
theorem generatorLaw : Obligations.GeneratorLaw := fun _ w his =>
  issueAll_message (i := .resultRd w) his rfl fun _ h => response_resultRd_of_holds h w

/-- Settles O49: EXPECT_WR on a state that holds the message. -/
theorem validatorLaw : Obligations.ValidatorLaw := by
  intro is v his
  refine issueAll_message (i := .expectWr v) his rfl fun s h => ?_
  rw [execNext_expectWr_of_holds h]
  simp

end

section
/-! PROOFS, family other: the CRC function (spec/40_crc_function.md). The table form (R87), affine linearity (R90), single-bit
errors (R91) and the MSB-first form (R81). -/

namespace Sys2Proof.Machine

open Sys2Proof

/-! ### The table form (R87) -/

/-- A step undoes a left shift that loses no bit, so k steps undo one of k places. -/
theorem steps_shiftLeft {x : Word} {k : Nat} (h : ∀ i, 32 ≤ i + k → x.getLsbD i = false) : steps k (x <<< k) = x := by
  induction k generalizing x with
  | zero => simp [steps]
  | succ k ih =>
    have htop : (x <<< k).getLsbD 31 = false := by
      rw [BitVec.getLsbD_shiftLeft, h (31 - k) (by omega), Bool.and_false]
    rw [steps, BitVec.shiftLeft_add, step1_shiftLeft_one htop, ih fun i hi => h i (by omega)]

/-- A word is its low byte and the rest. -/
theorem word_eq_xor_lowByte (x : Word) : x = (x >>> 8 <<< 8) ^^^ (x.extractLsb' 0 8).setWidth 32 := by
  apply BitVec.eq_of_getLsbD_eq
  intro i hi
  rw [BitVec.getLsbD_xor, BitVec.getLsbD_shiftLeft, BitVec.getLsbD_ushiftRight, BitVec.getLsbD_setWidth,
    BitVec.getLsbD_extractLsb']
  by_cases hlow : i < 8
  · simp [hlow, hi]
  · simp [hlow, hi, show 8 + (i - 8) = i by omega]

/-- Eight steps shift the upper 24 bits down unread and look the low byte up. -/
theorem steps_eight_eq (x : Word) : steps 8 x = (x >>> 8) ^^^ tableEntry (x.extractLsb' 0 8) := by
  have hhigh : steps 8 (x >>> 8 <<< 8) = x >>> 8 := steps_shiftLeft fun i hi => by
    rw [BitVec.getLsbD_ushiftRight, BitVec.getLsbD_of_ge x (8 + i) (by omega)]
  rw [tableEntry]
  nth_rewrite 1 [word_eq_xor_lowByte x]
  rw [steps_xor, hhigh]

/-- A byte added to the low end does not reach the bits from 8 up. -/
theorem xor_byte_ushiftRight (a : Word) (b : Byte) : (a ^^^ b.setWidth 32) >>> 8 = a >>> 8 := by
  have hbyte : (b.setWidth 32) >>> 8 = 0#32 := by
    apply BitVec.eq_of_getLsbD_eq
    intro i hi
    rw [BitVec.getLsbD_ushiftRight, BitVec.getLsbD_setWidth, BitVec.getLsbD_of_ge b (8 + i) (by omega), Bool.and_false,
      BitVec.getLsbD_zero]
  rw [BitVec.ushiftRight_xor_distrib, hbyte, BitVec.xor_zero]

theorem upd_eq_table (a : Word) (b : Byte) :
    upd a b = (a >>> 8) ^^^ tableEntry ((a ^^^ b.setWidth 32).extractLsb' 0 8) := by
  rw [upd, steps_eight_eq, xor_byte_ushiftRight]

/-! ### Linearity (R90) -/

/-- The message function is additive in accumulator and message together. -/
theorem absorb_xor (a a' : Word) {m m' : List Byte} (h : m.length = m'.length) :
    absorb (a ^^^ a') (List.zipWith (· ^^^ ·) m m') = absorb a m ^^^ absorb a' m' := by
  induction m generalizing a a' m' with
  | nil => cases m' with
    | nil => rfl
    | cons b' m' => cases h
  | cons b m ih => cases m' with
    | nil => cases h
    | cons b' m' =>
      rw [List.zipWith_cons_cons, absorb, upd_xor, ih _ _ (Nat.succ.inj h), absorb, absorb]

theorem zipWith_xor_replicate_zero (m : List Byte) : List.zipWith (· ^^^ ·) m (List.replicate m.length 0) = m := by
  induction m with
  | nil => rfl
  | cons b m ih => rw [List.length_cons, List.replicate_succ, List.zipWith_cons_cons, ih]; simp

/-- R90: of three initial values and three final masks one is left. -/
theorem crc32_xor_three {m n k : List Byte} (hmn : m.length = n.length) (hnk : n.length = k.length) :
    crc32 (List.zipWith (· ^^^ ·) (List.zipWith (· ^^^ ·) m n) k) = crc32 m ^^^ crc32 n ^^^ crc32 k := by
  have hlen : (List.zipWith (· ^^^ ·) m n).length = k.length := by
    rw [List.length_zipWith, ← hmn, Nat.min_self, hmn, hnk]
  have hinit : initValue = (initValue ^^^ initValue) ^^^ initValue := by decide
  have habsorb : absorb initValue (List.zipWith (· ^^^ ·) (List.zipWith (· ^^^ ·) m n) k) =
      absorb initValue m ^^^ absorb initValue n ^^^ absorb initValue k := by
    rw [← absorb_xor _ _ hmn, ← absorb_xor _ _ hlen, ← hinit]
  rw [crc32, crc32, crc32, crc32, habsorb, xor_mask_cancel, BitVec.xor_assoc]

/-- R90: the change an error makes, from the first form with the zero message. -/
theorem crc32_xor_error {m e : List Byte} (h : m.length = e.length) :
    crc32 (List.zipWith (· ^^^ ·) m e) ^^^ crc32 m = crc32 e ^^^ crc32 (List.replicate e.length 0) := by
  have hlen : (List.zipWith (· ^^^ ·) m e).length = e.length := by rw [List.length_zipWith, h, Nat.min_self]
  have hthree := crc32_xor_three h (k := List.replicate e.length 0) List.length_replicate.symm
  rw [← hlen, zipWith_xor_replicate_zero, hlen] at hthree
  rw [hthree, BitVec.xor_comm, ← BitVec.xor_assoc, ← BitVec.xor_assoc, BitVec.xor_self, BitVec.zero_xor]

/-! ### Single-bit errors (R91) -/

theorem absorb_injective (m : List Byte) : Function.Injective (absorb · m) := by
  induction m with
  | nil => exact fun _ _ h => h
  | cons b m ih => exact fun a a' h => (BitVec.xor_left_inj _).mp (steps_injective 8 (ih h))

theorem upd_injective (a : Word) : Function.Injective (upd a) := fun b b' h => by
  have hword := (BitVec.xor_right_inj a).mp (steps_injective 8 h)
  simpa using congrArg (BitVec.setWidth 8) hword

/-- Two messages that differ in one byte have different CRCs. -/
theorem crc32_ne_of_byte_ne (before after : List Byte) {b b' : Byte} (h : b ≠ b') :
    crc32 (before ++ b :: after) ≠ crc32 (before ++ b' :: after) := by
  intro hcrc
  have habsorb := (BitVec.xor_left_inj _).mp hcrc
  rw [absorb_append, absorb_append] at habsorb
  exact h (upd_injective _ (absorb_injective after habsorb))

theorem flipBit_ne (b : Byte) {j : Nat} (hj : j < 8) : b ^^^ BitVec.twoPow 8 j ≠ b := by
  intro h
  have hbit := congrArg (BitVec.getLsbD · j) h
  simp [hj] at hbit

/-! ### The MSB-first form (R81) -/

theorem getLsbD_reverse_word (x : Word) {i : Nat} (hi : i < 32) : x.reverse.getLsbD i = x.getLsbD (31 - i) := by
  rw [BitVec.getLsbD_reverse, BitVec.getMsbD_eq_getLsbD, decide_eq_true hi, Bool.true_and]

theorem reverse_reverse_word (x : Word) : x.reverse.reverse = x := by
  apply BitVec.eq_of_getLsbD_eq
  intro i hi
  rw [getLsbD_reverse_word _ hi, getLsbD_reverse_word x (by omega), show 31 - (31 - i) = i by omega]

theorem reverse_xor_word (x y : Word) : (x ^^^ y).reverse = x.reverse ^^^ y.reverse := by
  apply BitVec.eq_of_getLsbD_eq
  intro i hi
  simp only [getLsbD_reverse_word _ hi, BitVec.getLsbD_xor]

theorem reverse_ushiftRight_one (x : Word) : (x >>> 1).reverse = x.reverse <<< 1 := by
  apply BitVec.eq_of_getLsbD_eq
  intro i hi
  rw [getLsbD_reverse_word _ hi, BitVec.getLsbD_ushiftRight, BitVec.getLsbD_shiftLeft]
  cases i with
  | zero => simp
  | succ i =>
    rw [getLsbD_reverse_word x (by omega), show 1 + (31 - (i + 1)) = 31 - (i + 1 - 1) by omega]
    simp [hi]

/-- A byte in the low lane, seen from the other end, is the reflected byte in the high lane. -/
theorem reverse_setWidth_byte (b : Byte) : (b.setWidth 32).reverse = b.reverse.setWidth 32 <<< 24 := by
  apply BitVec.eq_of_getLsbD_eq
  intro i hi
  rw [getLsbD_reverse_word _ hi, getLsbD_shiftedByte _ _ hi, BitVec.getLsbD_reverse, BitVec.getMsbD_eq_getLsbD,
    BitVec.getLsbD_setWidth]
  by_cases hhigh : 24 ≤ i
  · simp [hhigh, show i - 24 < 8 by omega, show 8 - 1 - (i - 24) = 31 - i by omega, show 31 - i < 32 by omega]
  · simp [hhigh, BitVec.getLsbD_of_ge b (31 - i) (by omega)]

theorem reverse_polyReflected : polyReflected.reverse = poly := by decide +kernel

/-- The two one-bit steps are mirror images. -/
theorem msbStep1_reverse (a : Word) : msbStep1 a.reverse = (step1 a).reverse := by
  rw [msbStep1, step1, getLsbD_reverse_word a (by omega : 31 < 32), Nat.sub_self]
  split_ifs
  · rw [reverse_xor_word, reverse_ushiftRight_one, reverse_polyReflected]
  · rw [reverse_ushiftRight_one]

theorem msbSteps_reverse (n : Nat) (a : Word) : msbSteps n a.reverse = (steps n a).reverse := by
  induction n generalizing a with
  | zero => rfl
  | succ n ih => rw [msbSteps, msbStep1_reverse, ih, steps]

theorem msbUpd_reverse (a : Word) (b : Byte) : msbUpd a.reverse b = (upd a b).reverse := by
  rw [msbUpd, ← reverse_setWidth_byte, ← reverse_xor_word, msbSteps_reverse, upd]

theorem msbAbsorb_reverse (a : Word) (m : List Byte) : msbAbsorb a.reverse m = (absorb a m).reverse := by
  induction m generalizing a with
  | nil => rfl
  | cons b m ih => rw [msbAbsorb, msbUpd_reverse, ih, absorb]

/-- The initial value is its own mirror image, so R81's register is that of `absorb` reflected. -/
theorem msbAbsorb_initValue (m : List Byte) : msbAbsorb initValue m = (absorb initValue m).reverse := by
  have hinit : initValue.reverse = initValue := by decide +kernel
  rw [← msbAbsorb_reverse, hinit]

section

open Polynomial

/-! ### Words as polynomials over GF(2) (R81) -/

/-- The polynomial whose coefficients are the bits of a word. -/
noncomputable def wordPoly (a : Word) : (ZMod 2)[X] := ∑ j ∈ Finset.range 32, if a.getLsbD j then X ^ j else 0

/-- A byte's polynomial: R81 takes its bit 0 first, so bit i is the coefficient of x^(7-i). -/
noncomputable def bytePoly (b : Byte) : (ZMod 2)[X] := ∑ i ∈ Finset.range 8, if b.getLsbD i then X ^ (7 - i) else 0

/-- M(x): the bits of the message in the order they are taken, from the highest power down. -/
noncomputable def messagePoly (m : List Byte) : (ZMod 2)[X] :=
  ∑ i ∈ Finset.range (8 * m.length), if (m.getD (i / 8) 0).getLsbD (i % 8) then X ^ (8 * m.length - 1 - i) else 0

/-- G(x), the generator with its implicit x^32 term. -/
noncomputable def genPoly : (ZMod 2)[X] :=
  X ^ 32 + X ^ 26 + X ^ 23 + X ^ 22 + X ^ 16 + X ^ 12 + X ^ 11 + X ^ 10 + X ^ 8 + X ^ 7 + X ^ 5 + X ^ 4 + X ^ 2 + X + 1

/-- G(x) is x^32 and the bits of the polynomial parameter. -/
theorem genPoly_eq : genPoly = X ^ 32 + wordPoly poly := by
  have hbits : ∀ j < 32, poly.getLsbD j = ([0, 1, 2, 4, 5, 7, 8, 10, 11, 12, 16, 22, 23, 26].contains j) := by decide
  have hsum : wordPoly poly =
      ∑ j ∈ Finset.range 32, if [0, 1, 2, 4, 5, 7, 8, 10, 11, 12, 16, 22, 23, 26].contains j then X ^ j else 0 :=
    Finset.sum_congr rfl fun j hj => by rw [hbits j (Finset.mem_range.mp hj)]
  rw [hsum, genPoly]
  simp [Finset.sum_range_succ, add_assoc, add_comm]

theorem degree_wordPoly_lt (a : Word) : (wordPoly a).degree < (32 : ℕ) := by
  refine (degree_sum_le _ _).trans_lt ?_
  rw [Finset.sup_lt_iff (WithBot.bot_lt_coe 32)]
  intro j hj
  split_ifs
  · rw [degree_X_pow]; exact_mod_cast Finset.mem_range.mp hj
  · rw [degree_zero]; exact WithBot.bot_lt_coe 32

theorem monic_genPoly : genPoly.Monic := genPoly_eq ▸ monic_X_pow_add (degree_wordPoly_lt poly)

theorem degree_genPoly : genPoly.degree = (32 : ℕ) := by
  rw [genPoly_eq, degree_add_eq_left_of_degree_lt, degree_X_pow]
  rw [degree_X_pow]
  exact degree_wordPoly_lt poly

/-- XOR is addition of coefficients. -/
theorem wordPoly_xor (a b : Word) : wordPoly (a ^^^ b) = wordPoly a + wordPoly b := by
  rw [wordPoly, wordPoly, wordPoly, ← Finset.sum_add_distrib]
  refine Finset.sum_congr rfl fun j _ => ?_
  rw [BitVec.getLsbD_xor]
  cases a.getLsbD j <;> cases b.getLsbD j <;> simp [CharTwo.add_self_eq_zero]

/-- A left shift is multiplication by x, but for the bit shifted out. -/
theorem X_mul_wordPoly (a : Word) : X * wordPoly a = wordPoly (a <<< 1) + if a.getLsbD 31 then X ^ 32 else 0 := by
  have hbit : ∀ j < 31, (a <<< 1).getLsbD (j + 1) = a.getLsbD j := fun j hj => by
    simp (disch := omega) only [BitVec.getLsbD_shiftLeft, decide_eq_true, decide_eq_false, Bool.not_false, Bool.true_and,
      Nat.add_sub_cancel]
  rw [wordPoly, wordPoly, Finset.sum_range_succ, Finset.sum_range_succ' _ 31, mul_add, Finset.mul_sum]
  have hshift : ∀ j ∈ Finset.range 31, (X * if a.getLsbD j then X ^ j else 0 : (ZMod 2)[X]) =
      if (a <<< 1).getLsbD (j + 1) then X ^ (j + 1) else 0 := fun j hj => by
    rw [hbit j (Finset.mem_range.mp hj), mul_ite, mul_zero, pow_succ']
  rw [Finset.sum_congr rfl hshift]
  simp [pow_succ']

/-! ### The register algorithm modulo G(x) -/

theorem mk_wordPoly_msbStep1 (a : Word) :
    AdjoinRoot.mk genPoly (wordPoly (msbStep1 a)) = AdjoinRoot.mk genPoly (X * wordPoly a) := by
  rw [X_mul_wordPoly, msbStep1]
  split_ifs
  · have hgen : AdjoinRoot.mk genPoly (X ^ 32) = AdjoinRoot.mk genPoly (wordPoly poly) := by
      rw [AdjoinRoot.mk_eq_mk, CharTwo.sub_eq_add, ← genPoly_eq]
    rw [wordPoly_xor, map_add, map_add, hgen]
  · rw [add_zero]

theorem mk_wordPoly_msbSteps (n : Nat) (a : Word) :
    AdjoinRoot.mk genPoly (wordPoly (msbSteps n a)) = AdjoinRoot.mk genPoly (X ^ n * wordPoly a) := by
  induction n generalizing a with
  | zero => rw [msbSteps, pow_zero, one_mul]
  | succ n ih => rw [msbSteps, ih, map_mul, mk_wordPoly_msbStep1, ← map_mul, ← mul_assoc, ← pow_succ]

/-- A byte added to the register stands at x^24. -/
theorem wordPoly_highByte (b : Byte) : wordPoly (b.reverse.setWidth 32 <<< 24) = X ^ 24 * bytePoly b := by
  have hlow : ∀ j ∈ Finset.range 24,
      (if (b.reverse.setWidth 32 <<< 24).getLsbD j then X ^ j else 0 : (ZMod 2)[X]) = 0 := fun j hj => by
    have hj := Finset.mem_range.mp hj
    rw [getLsbD_shiftedByte _ _ (by omega), decide_eq_false (by omega), Bool.false_and, if_neg Bool.false_ne_true]
  have hhigh : ∀ i ∈ Finset.range 8,
      (if (b.reverse.setWidth 32 <<< 24).getLsbD (24 + (8 - 1 - i)) then X ^ (24 + (8 - 1 - i)) else 0 : (ZMod 2)[X]) =
        X ^ 24 * if b.getLsbD i then X ^ (7 - i) else 0 := fun i hi => by
    have hi := Finset.mem_range.mp hi
    rw [getLsbD_shiftedByte _ _ (by omega), BitVec.getLsbD_reverse, BitVec.getMsbD_eq_getLsbD, mul_ite, mul_zero, pow_add,
      show 8 - 1 - (24 + (8 - 1 - i) - 24) = i by omega, decide_eq_true (by omega), decide_eq_true (by omega),
      Bool.true_and, Bool.true_and]
  rw [wordPoly, Finset.sum_range_add _ 24 8, Finset.sum_eq_zero hlow, zero_add, ← Finset.sum_range_reflect,
    Finset.sum_congr rfl hhigh, bytePoly, Finset.mul_sum]

theorem mk_wordPoly_msbUpd (a : Word) (b : Byte) :
    AdjoinRoot.mk genPoly (wordPoly (msbUpd a b)) =
      AdjoinRoot.mk genPoly (X ^ 8 * wordPoly a + X ^ 32 * bytePoly b) := by
  rw [msbUpd, mk_wordPoly_msbSteps, wordPoly_xor, wordPoly_highByte, mul_add, ← mul_assoc, ← pow_add]

theorem messagePoly_cons (b : Byte) (m : List Byte) :
    messagePoly (b :: m) = X ^ (8 * m.length) * bytePoly b + messagePoly m := by
  rw [messagePoly, List.length_cons, Nat.mul_succ, Nat.add_comm, Finset.sum_range_add, bytePoly, Finset.mul_sum, messagePoly]
  refine congrArg₂ (· + ·) (Finset.sum_congr rfl fun i hi => ?_) (Finset.sum_congr rfl fun i hi => ?_)
  · have hi := Finset.mem_range.mp hi
    rw [Nat.div_eq_of_lt hi, Nat.mod_eq_of_lt hi, List.getD_cons_zero, mul_ite, mul_zero, ← pow_add,
      show 8 + 8 * m.length - 1 - i = 8 * m.length + (7 - i) by omega]
  · rw [Nat.add_mod_left, show (8 + i) / 8 = i / 8 + 1 by omega, List.getD_cons_succ,
      show 8 + 8 * m.length - 1 - (8 + i) = 8 * m.length - 1 - i by omega]

/-- R81's register, modulo G(x): each byte multiplies it by x^8 and adds the byte at x^32. -/
theorem mk_wordPoly_msbAbsorb (a : Word) (m : List Byte) :
    AdjoinRoot.mk genPoly (wordPoly (msbAbsorb a m)) =
      AdjoinRoot.mk genPoly (X ^ 32 * messagePoly m + X ^ (8 * m.length) * wordPoly a) := by
  induction m generalizing a with
  | nil => simp [msbAbsorb, messagePoly]
  | cons b m ih =>
    have hreg := congrArg (AdjoinRoot.mk genPoly (X ^ (8 * m.length)) * ·) (mk_wordPoly_msbUpd a b)
    simp only [← map_mul] at hreg
    rw [msbAbsorb, ih, map_add, hreg, ← map_add, messagePoly_cons, List.length_cons]
    exact congrArg (AdjoinRoot.mk genPoly) (by ring)

/-- The register holds a remainder modulo G(x): its degree is below 32. -/
theorem wordPoly_eq_modByMonic {a : Word} {p : (ZMod 2)[X]}
    (h : AdjoinRoot.mk genPoly (wordPoly a) = AdjoinRoot.mk genPoly p) : wordPoly a = p %ₘ genPoly := by
  rw [← modByMonic_eq_of_dvd_sub monic_genPoly (AdjoinRoot.mk_eq_mk.mp h), eq_comm,
    modByMonic_eq_self_iff monic_genPoly, degree_genPoly]
  exact degree_wordPoly_lt a

/-- U(x): every coefficient of the initial value is 1. -/
theorem wordPoly_initValue : wordPoly initValue = ∑ j ∈ Finset.range 32, X ^ j := by
  have hbits : ∀ j < 32, initValue.getLsbD j = true := by decide
  exact Finset.sum_congr rfl fun j hj => if_pos (hbits j (Finset.mem_range.mp hj))

end

/-- The CRC before its final XOR. -/
theorem crc32_xor_xorOut (m : List Byte) : crc32 m ^^^ xorOut = absorb initValue m := by
  rw [crc32, BitVec.xor_assoc, BitVec.xor_self, BitVec.xor_zero]

end Sys2Proof.Machine

open Sys2Proof Sys2Proof.Machine

/-- Settles O39: R83 and R84 with the reflected polynomial evaluated, R85 by definition. -/
theorem oneBitStepAndByteUpdate : Obligations.OneBitStepAndByteUpdate := by
  have hpoly : (0x04C11DB7#32).reverse = polyReflected := by decide +kernel
  exact ⟨hpoly, fun a => by rw [hpoly, step1], fun _ _ => rfl, by decide, by decide, by decide⟩

/-- Settles O40: `upd_eq_table`, and the rule's entries evaluated. -/
theorem tableFormIsByteUpdate : Obligations.TableFormIsByteUpdate :=
  ⟨upd_eq_table, by decide, by decide, by decide, by decide, by decide⟩

/-- Settles O42: `absorb_xor` in its two consequences. -/
theorem crcAffineLinearity : Obligations.CrcAffineLinearity :=
  ⟨fun _ _ _ => crc32_xor_three, fun _ _ => crc32_xor_error⟩

/-- Settles O43: the byte update is one-to-one in the byte and in the accumulator (`crc32_ne_of_byte_ne`). -/
theorem singleBitErrorChangesCrc : Obligations.SingleBitErrorChangesCrc := fun before after b _ hj =>
  crc32_ne_of_byte_ne before after (flipBit_ne b hj)

/-- Settles O44: the MSB-first register is the mirror image of the reflected one. -/
theorem msbFirstFormAgrees : Obligations.MsbFirstFormAgrees := by
  intro m
  rw [crc32Msb, msbAbsorb_initValue, reverse_reverse_word, crc32]

/-- Settles O45: R81's register modulo G(x), started from U(x) (`mk_wordPoly_msbAbsorb`). -/
theorem crcIsPolynomialRemainder : Obligations.CrcIsPolynomialRemainder := by
  intro m
  have hmod := wordPoly_eq_modByMonic (mk_wordPoly_msbAbsorb initValue m)
  rw [wordPoly_initValue, msbAbsorb_initValue, ← crc32_xor_xorOut] at hmod
  exact hmod

end

section
/-! PROOFS, family other: packing and the pseudo-instructions (spec/30_encoding.md R67, spec/44_host_procedures.md R146). -/

namespace Sys2Proof.Machine

open Sys2Proof

/-! ### Bytes of a word -/

theorem length_laneBytes (n : Nat) (w : Word) : (laneBytes n w).length = n := by
  induction n with
  | zero => rfl
  | succ n ih => rw [laneBytes, List.length_cons, ih]

theorem laneBytes_four_injective : Function.Injective (laneBytes 4) := by
  intro w w' h
  simp only [laneBytes, List.cons.injEq, and_true] at h
  obtain ⟨h3, h2, h1, h0⟩ := h
  rw [← wordOfBytes_byteLanes w, ← wordOfBytes_byteLanes w', h3, h2, h1, h0]

/-- The two low lanes of a word are the last two bytes it was put together from. -/
theorem laneBytes_two_wordOfBytes (b3 b2 b1 b0 : Byte) : laneBytes 2 (wordOfBytes b3 b2 b1 b0) = [b1, b0] :=
  congrArg (List.drop 2) (laneBytes_wordOfBytes b3 b2 b1 b0)

theorem laneBytes_one_wordOfBytes (b3 b2 b1 b0 : Byte) : laneBytes 1 (wordOfBytes b3 b2 b1 b0) = [b0] :=
  congrArg (List.drop 3) (laneBytes_wordOfBytes b3 b2 b1 b0)

/-- A word of zero bytes above a byte or a half word is that value widened. -/
theorem wordOfBytes_byte (b : Byte) : wordOfBytes 0 0 0 b = b.setWidth 32 := by
  apply BitVec.eq_of_getLsbD_eq
  intro i hi
  rw [getLsbD_wordOfBytes, BitVec.getLsbD_setWidth]
  split_ifs with h0
  · simp [hi]
  all_goals simp [BitVec.getLsbD_of_ge b i (by omega)]

theorem wordOfBytes_half (b1 b0 : Byte) : wordOfBytes 0 0 b1 b0 = (b1 ++ b0).setWidth 32 := by
  apply BitVec.eq_of_getLsbD_eq
  intro i hi
  rw [getLsbD_wordOfBytes, BitVec.getLsbD_setWidth, BitVec.getLsbD_append]
  split_ifs with h0 h1
  · simp [hi]
  · simp [hi]
  all_goals simp [BitVec.getLsbD_of_ge b1 (i - 8) (by omega)]

theorem byteReverse_wordOfBytes (b3 b2 b1 b0 : Byte) : byteReverse (wordOfBytes b3 b2 b1 b0) = wordOfBytes b0 b1 b2 b3 := by
  have hlanes := laneBytes_wordOfBytes b3 b2 b1 b0
  simp only [laneBytes, List.cons.injEq, and_true] at hlanes
  obtain ⟨h3, h2, h1, h0⟩ := hlanes
  rw [byteReverse, h3, h2, h1, h0]

/-- DATA_WR8 for each byte feeds the bytes in order. -/
theorem flatMap_fedBytes_dataWr8 (m : List Byte) : m.flatMap (fun b => fedBytes (.dataWr8 (b.setWidth 32))) = m := by
  have hbyte : ∀ b : Byte, fedBytes (.dataWr8 (b.setWidth 32)) = [b] := fun b =>
    (congrArg (laneBytes 1) (wordOfBytes_byte b).symm).trans (laneBytes_one_wordOfBytes 0 0 0 b)
  simp only [hbyte, List.flatMap_singleton']

/-! ### FEED (R67) -/

/-- FEED is DATA writes. -/
theorem feedTxns_isDataWrite (m : List Byte) : ∀ txn ∈ feedTxns m, isDataWrite (decode txn) = true := by
  induction m using feedTxns.induct with
  | case1 b0 b1 b2 b3 rest ih => exact List.forall_mem_cons.mpr ⟨by rw [decode_encode rfl]; rfl, ih⟩
  | case2 b0 b1 b2 => simp only [feedTxns, List.mem_cons, List.not_mem_nil, or_false, forall_eq_or_imp, forall_eq,
      decode_encode (i := .dataWr16 _) rfl, decode_encode (i := .dataWr8 _) rfl, isDataWrite, and_self]
  | case3 b0 b1 => simp only [feedTxns, List.mem_singleton, forall_eq, decode_encode (i := .dataWr16 _) rfl, isDataWrite]
  | case4 b0 => simp only [feedTxns, List.mem_singleton, forall_eq, decode_encode (i := .dataWr8 _) rfl, isDataWrite]
  | case5 => simp [feedTxns]

/-- FEED feeds exactly its bytes. -/
theorem feedTxns_fedBytes (m : List Byte) : (feedTxns m).flatMap (fun txn => fedBytes (decode txn)) = m := by
  induction m using feedTxns.induct with
  | case1 b0 b1 b2 b3 rest ih =>
    rw [feedTxns, List.flatMap_cons, ih, decode_encode rfl, fedBytes, laneBytes_wordOfBytes]; rfl
  | case2 b0 b1 b2 =>
    rw [feedTxns, List.flatMap_cons, List.flatMap_singleton, decode_encode rfl, decode_encode rfl, fedBytes, fedBytes,
      laneBytes_two_wordOfBytes, laneBytes_one_wordOfBytes]; rfl
  | case3 b0 b1 => rw [feedTxns, List.flatMap_singleton, decode_encode rfl, fedBytes, laneBytes_two_wordOfBytes]
  | case4 b0 => rw [feedTxns, List.flatMap_singleton, decode_encode rfl, fedBytes, laneBytes_one_wordOfBytes]
  | case5 => rfl

end Sys2Proof.Machine

open Sys2Proof Sys2Proof.Machine

/-- Settles O50: the encoder's rows, FEED's tails as widened bytes, and `feedTxns_fedBytes`. -/
theorem pseudoInstructionExpansions : Obligations.PseudoInstructionExpansions := by
  refine ⟨Laws.EncodeDescriptor.ctrlWr _, Laws.EncodeDescriptor.ctrlWr _, Laws.EncodeDescriptor.ctrlWr _,
    Laws.EncodeDescriptor.ctrlWr _, Laws.EncodeDescriptor.expectWr, fun b0 b1 b2 b3 rest => ?four, fun b0 b1 b2 => ?tails,
    fun m => ⟨feedTxns_isDataWrite m, feedTxns_fedBytes m⟩⟩
  case four => exact congrArg (· :: feedTxns rest) (Laws.EncodeDescriptor.dataWr32 _)
  case tails =>
    have hhalf : ∀ b b', encode (.dataWr16 (wordOfBytes 0 0 b b')) = ⟨0xA4, (b ++ b').setWidth 32⟩ := fun b b' =>
      wordOfBytes_half b b' ▸ Laws.EncodeDescriptor.dataWr16 _
    have hbyte : ∀ b, encode (.dataWr8 (wordOfBytes 0 0 0 b)) = ⟨0x84, b.setWidth 32⟩ := fun b =>
      wordOfBytes_byte b ▸ Laws.EncodeDescriptor.dataWr8 _
    exact ⟨by rw [feedTxns, hhalf, hbyte], by rw [feedTxns, hhalf], by rw [feedTxns, hbyte]⟩

/-- Settles O51: `laneBytes_wordOfBytes` for both byte orders, and the IEND example evaluated. -/
theorem packingBytes : Obligations.PackingBytes := fun b0 b1 b2 b3 =>
  ⟨laneBytes_wordOfBytes b0 b1 b2 b3, byteReverse_wordOfBytes b3 b2 b1 b0, laneBytes_wordOfBytes b3 b2 b1 b0,
    flatMap_fedBytes_dataWr8 _, by decide, by decide +kernel⟩

end

section
/-! PROOFS, family other: the host procedures (spec/44_host_procedures.md R141 to R149). What one pass of each procedure does,
what restarts make of it, and chunks on the wire. -/

namespace Sys2Proof.Machine

open Sys2Proof

/-! ### The transactions of a pass -/

theorem issue_encode {i : Instr} (h : i.wf = true) (s : State) : issue (encode i) s = .next (execNext i s) := by
  rw [issue_eq, decode_encode h]

@[simp] theorem rdata_execNext_statusRd (w : Word) (s : State) : (execNext (.statusRd w) s).rdata = s.statusWord := rfl

@[simp] theorem rdata_execNext_resultRd (w : Word) (s : State) : (execNext (.resultRd w) s).rdata = s.result := rfl

/-- The state after INIT and a message: only ACC and the compare flags are written. -/
def State.fed (m : List Byte) (s : State) : State :=
  { s with acc := absorb initValue m, ok := false, mismatch := false, response := some (.okay 0) }

theorem State.holds_fed (m : List Byte) (s : State) : (s.fed m).Holds m := rfl

/-- INIT and FEED of a message, in any state. -/
theorem issueAll_init_feed (m : List Byte) (s : State) : issueAll (initTxn :: feedTxns m) s = .next (s.fed m) := by
  have hwrites : ∀ i ∈ (feedTxns m).map decode, isDataWrite i = true := by
    simpa only [List.forall_mem_map] using feedTxns_isDataWrite m
  have hbytes : ((feedTxns m).map decode).flatMap fedBytes = m := by
    rw [List.flatMap_map]; exact feedTxns_fedBytes m
  rw [issueAll, initTxn, issue_encode (by decide), andThen_next, issueAll_eq, execAll_dataWrites hwrites, hbytes]
  split_ifs with hnil
  · rw [hnil] at hbytes
    subst hbytes
    rfl
  · rfl

/-! ### Restarts (R142, R144) -/

/-- A pass that is void exactly where ERR = 1, and that ends with ERR as it was. -/
structure VoidOnErr {α : Type} (attempt : State → Host.Outcome (α × State) Fault Refusal) (done : State → State)
    (void result : α) : Prop where
  answers : ∀ s, attempt s = .next (if s.err then void else result, done s)
  keeps_err : ∀ s, (done s).err = s.err

/-- What an instruction makes of ERR depends on nothing else in the state (R23). -/
theorem execNext_err_congr (i : Instr) {s s' : State} (h : s'.err = s.err) : (execNext i s').err = (execNext i s).err := by
  have hpair := execNext_error i s
  have hpair' := execNext_error i s'
  cases i with
  | ctrlWr w => dsimp only at hpair hpair'; split_ifs at hpair hpair' <;> simp_all
  | busErr cause desc w => simp [execNext, State.recordError_eq]
  | _ => simp_all

theorem execAll_err_congr (is : List Instr) {s s' : State} (h : s'.err = s.err) :
    (execAll is s').err = (execAll is s).err := by
  induction is generalizing s s' with
  | nil => exact h
  | cons i is ih => exact ih (execNext_err_congr i h)

section

variable {α : Type} {isVoid : α → Bool} {attempt : State → Host.Outcome (α × State) Fault Refusal} {done : State → State}
  {void result : α}

theorem VoidOnErr.restarting_of_err_false (h : VoidOnErr attempt done void result) (hresult : isVoid result = false)
    (restarts : List (List Txn)) {s : State} (hs : s.err = false) :
    restarting isVoid attempt restarts s = .next (result, done s) := by
  refine restarting_done restarts ?_ hresult
  rw [h.answers, hs, if_neg Bool.false_ne_true]

theorem VoidOnErr.restarting_of_err (h : VoidOnErr attempt done void result) (hvoid : isVoid void = true)
    (txns : List Txn) (restarts : List (List Txn)) {s : State} (hs : s.err = true) :
    restarting isVoid attempt (txns :: restarts) s =
      andThen (issueAll txns (done s)) (restarting isVoid attempt restarts) := by
  refine restarting_void txns restarts ?_ hvoid
  rw [h.answers, hs, if_pos rfl]

/-- Whatever the host issues between, the procedure ends, void or with its result. -/
theorem VoidOnErr.restarting_result (h : VoidOnErr attempt done void result) (hvoid : isVoid void = true)
    (hresult : isVoid result = false) (restarts : List (List Txn)) (s : State) :
    ∃ r t, restarting isVoid attempt restarts s = .next (r, t) ∧ (r = void ∨ r = result) := by
  induction restarts generalizing s with
  | nil => exact ⟨_, _, h.answers s, ite_eq_or_eq _ _ _⟩
  | cons txns restarts ih =>
    cases hs : s.err with
    | false => exact ⟨_, _, h.restarting_of_err_false hresult _ hs, .inr rfl⟩
    | true =>
      rw [h.restarting_of_err hvoid _ _ hs, issueAll_eq, andThen_next]
      exact ih _

/-- A restart after CLR_ERR gives the result, in every state. -/
theorem VoidOnErr.restarting_clrErr (h : VoidOnErr attempt done void result) (hvoid : isVoid void = true)
    (hresult : isVoid result = false) (restarts : List (List Txn)) (s : State) :
    ∃ t, restarting isVoid attempt ([clrErrTxn] :: restarts) s = .next (result, t) := by
  cases hs : s.err with
  | false => exact ⟨_, h.restarting_of_err_false hresult _ hs⟩
  | true =>
    have hclear : issueAll [clrErrTxn] (done s) = .next (execNext (.ctrlWr 2) (done s)) :=
      issueAll_encode (is := [.ctrlWr 2]) (by decide) (done s)
    rw [h.restarting_of_err hvoid _ _ hs, hclear, andThen_next]
    exact ⟨_, h.restarting_of_err_false hresult restarts rfl⟩

/-- With nothing issued between, a void procedure stays void: no pass clears ERR. -/
theorem VoidOnErr.restarting_replicate_nil (h : VoidOnErr attempt done void result) (hvoid : isVoid void = true)
    (n : Nat) {s : State} (hs : s.err = true) :
    ∃ t, restarting isVoid attempt (List.replicate n []) s = .next (void, t) := by
  induction n generalizing s with
  | zero => exact ⟨done s, by rw [List.replicate_zero, restarting_nil, h.answers, hs, if_pos rfl]⟩
  | succ n ih =>
    rw [List.replicate_succ, h.restarting_of_err hvoid _ _ hs, issueAll, andThen_next]
    exact ih ((h.keeps_err s).trans hs)

/-- The result depends on nothing in the state but ERR. -/
theorem VoidOnErr.restarting_congr (h : VoidOnErr attempt done void result) (restarts : List (List Txn)) {s s' : State}
    (hs : s'.err = s.err) :
    ∃ r t t', restarting isVoid attempt restarts s = .next (r, t) ∧ restarting isVoid attempt restarts s' = .next (r, t') := by
  have hanswer' : attempt s' = .next (if s.err then void else result, done s') := hs ▸ h.answers s'
  induction restarts generalizing s s' with
  | nil => exact ⟨_, _, _, h.answers s, hanswer'⟩
  | cons txns restarts ih =>
    cases hv : isVoid (if s.err then void else result) with
    | false => exact ⟨_, _, _, restarting_done _ (h.answers s) hv, restarting_done _ hanswer' hv⟩
    | true =>
      rw [restarting_void _ _ (h.answers s) hv, restarting_void _ _ hanswer' hv, issueAll_eq, issueAll_eq, andThen_next,
        andThen_next]
      have hdone : (done s').err = (done s).err := by rw [h.keeps_err, h.keeps_err, hs]
      have hissued := execAll_err_congr (txns.map decode) hdone
      exact ih hissued (hissued ▸ h.answers _)

end

/-! ### Generator (R142) -/

/-- The end state of one pass of the generator. -/
def generateDone (ty : Vector Byte 4) (payload : List Byte) (s : State) : State :=
  execNext (.statusRd 0) (execNext (.resultRd 0) (s.fed (chunkMessage ty payload)))

theorem generateAttempt_voidOnErr (ty : Vector Byte 4) (payload : List Byte) :
    VoidOnErr (generateAttempt ty payload) (generateDone ty payload) .void (.crc (crc32 (ty.toList ++ payload))) where
  answers s := by
    have hvoid : (execNext (.resultRd 0) (s.fed (chunkMessage ty payload))).statusWord.getLsbD 2 = s.err :=
      State.getLsbD_statusWord _ 2
    rw [generateAttempt, issueAll_init_feed, andThen_next, resultRdTxn, issue_encode rfl, andThen_next, statusRdTxn,
      issue_encode rfl, andThen_next, rdata_execNext_statusRd, hvoid, rdata_execNext_resultRd,
      State.result_of_holds (State.holds_fed _ s)]
    rfl
  keeps_err _ := rfl

/-! ### Validator (R144, R145) -/

/-- The verdict of a chunk's span with no bus error on record. -/
def crcVerdict (c : List Byte) : Verdict := if storedCrc c = crc32 (spanMessage c) then .ok else .crcMismatch

theorem crcVerdict_not_void (c : List Byte) : (crcVerdict c).isVoid = false := by
  rw [crcVerdict]; split_ifs <;> rfl

/-- The end state of one pass of the validator. -/
def validateDone (c : List Byte) (s : State) : State :=
  execNext (.statusRd 0) (execNext (.expectWr (storedCrc c)) (s.fed (spanMessage c)))

theorem validateAttempt_voidOnErr {c : List Byte} (hc : 12 ≤ c.length) :
    VoidOnErr (validateAttempt c) (validateDone c) .void (crcVerdict c) where
  answers s := by
    have hvoid : (execNext (.expectWr (storedCrc c)) (s.fed (spanMessage c))).statusWord.getLsbD 2 = s.err :=
      State.getLsbD_statusWord _ 2
    have hmismatch : (execNext (.expectWr (storedCrc c)) (s.fed (spanMessage c))).statusWord.getLsbD 1 =
        decide (storedCrc c ≠ crc32 (spanMessage c)) := by
      rw [State.getLsbD_statusWord, execNext_expectWr_of_holds (State.holds_fed _ s)]
    have hverdict : (if decide (storedCrc c ≠ crc32 (spanMessage c)) then .crcMismatch else .ok) = crcVerdict c := by
      by_cases h : storedCrc c = crc32 (spanMessage c) <;> simp [crcVerdict, h]
    rw [validateAttempt, if_neg (Nat.not_lt.mpr hc), issueAll_init_feed, andThen_next, checkTxn, issue_encode rfl,
      andThen_next, statusRdTxn, issue_encode rfl, andThen_next, rdata_execNext_statusRd, hvoid, hmismatch, hverdict]
    rfl
  keeps_err _ := rfl

/-- The end state of one pass of the software compare. -/
def softwareDone (c : List Byte) (s : State) : State :=
  execNext (.statusRd 0) (execNext (.resultRd 0) (s.fed (spanMessage c)))

theorem validateBySoftwareAttempt_voidOnErr {c : List Byte} (hc : 12 ≤ c.length) :
    VoidOnErr (validateBySoftwareAttempt c) (softwareDone c) .void (crcVerdict c) where
  answers s := by
    have hvoid : (execNext (.resultRd 0) (s.fed (spanMessage c))).statusWord.getLsbD 2 = s.err :=
      State.getLsbD_statusWord _ 2
    have hverdict : (if crc32 (spanMessage c) ≠ storedCrc c then .crcMismatch else .ok) = crcVerdict c := by
      rw [crcVerdict, ite_not]
      simp only [eq_comm]
    rw [validateBySoftwareAttempt, if_neg (Nat.not_lt.mpr hc), issueAll_init_feed, andThen_next, resultRdTxn,
      issue_encode rfl, andThen_next, statusRdTxn, issue_encode rfl, andThen_next, rdata_execNext_statusRd, hvoid,
      rdata_execNext_resultRd, State.result_of_holds (State.holds_fed _ s), hverdict]
    rfl
  keeps_err _ := rfl

/-- A span that is too short is the host's error; the block is not used. -/
theorem validate_tooShort (restarts : List (List Txn)) {c : List Byte} (hc : c.length < 12) (s : State) :
    validate restarts c s = .next (.tooShort, s) :=
  restarting_done restarts (if_pos hc) rfl

theorem validateBySoftware_tooShort (restarts : List (List Txn)) {c : List Byte} (hc : c.length < 12) (s : State) :
    validateBySoftware restarts c s = .next (.tooShort, s) :=
  restarting_done restarts (if_pos hc) rfl

/-! ### Chunks and containers (R149) -/

/-- The verdict of any span once ERR = 0. -/
def verdictOf (c : List Byte) : Verdict := if c.length < 12 then .tooShort else crcVerdict c

theorem verdictOf_eq_ok_iff (c : List Byte) :
    verdictOf c = .ok ↔ 12 ≤ c.length ∧ storedCrc c = crc32 (spanMessage c) := by
  rw [verdictOf, crcVerdict]
  split_ifs with hlen hcrc
  · simp [hlen]
  · simp [hcrc, Nat.not_lt.mp hlen]
  · simp [hcrc]

theorem validate_of_err_false (restarts : List (List Txn)) (c : List Byte) {s : State} (hs : s.err = false) :
    ∃ t, validate restarts c s = .next (verdictOf c, t) ∧ t.err = false := by
  rw [verdictOf]
  split_ifs with hc
  · exact ⟨s, validate_tooShort restarts hc s, hs⟩
  · exact ⟨_, (validateAttempt_voidOnErr (Nat.not_lt.mp hc)).restarting_of_err_false (crcVerdict_not_void c) restarts hs, hs⟩

theorem validate_clrErr (restarts : List (List Txn)) (c : List Byte) (s : State) :
    ∃ t, validate ([clrErrTxn] :: restarts) c s = .next (verdictOf c, t) := by
  rw [verdictOf]
  split_ifs with hc
  · exact ⟨s, validate_tooShort _ hc s⟩
  · exact (validateAttempt_voidOnErr (Nat.not_lt.mp hc)).restarting_clrErr rfl (crcVerdict_not_void c) restarts s

/-- Where each chunk gets its own verdict in every state of a kind that the validator keeps, the container is Ok exactly
when every chunk is. -/
theorem validateAll_eq_ok_iff {restarts : List (List Txn)} {P : State → Prop}
    (h : ∀ c s, P s → ∃ t, validate restarts c s = .next (verdictOf c, t) ∧ P t) (chunks : List (List Byte)) {s : State}
    (hs : P s) : ∃ v t, validateAll restarts chunks s = .next (v, t) ∧
      (v = .ok ↔ ∀ c ∈ chunks, 12 ≤ c.length ∧ storedCrc c = crc32 (spanMessage c)) := by
  simp only [← verdictOf_eq_ok_iff]
  induction chunks generalizing s with
  | nil => exact ⟨.ok, s, rfl, by simp⟩
  | cons c chunks ih =>
    obtain ⟨t, ht, hP⟩ := h c s hs
    simp only [validateAll, ht, andThen_next, List.forall_mem_cons]
    split_ifs with hok
    · simpa only [hok, true_and] using ih hP
    · exact ⟨_, _, rfl, by simp only [hok, false_and]⟩

theorem validate_congr (restarts : List (List Txn)) (c : List Byte) {s s' : State} (hs : s'.err = s.err) :
    ∃ v t t', validate restarts c s = .next (v, t) ∧ validate restarts c s' = .next (v, t') := by
  by_cases hc : c.length < 12
  · exact ⟨_, _, _, validate_tooShort restarts hc s, validate_tooShort restarts hc s'⟩
  · exact (validateAttempt_voidOnErr (Nat.not_lt.mp hc)).restarting_congr restarts hs

/-! ### The chunk on the wire (R143, R144) -/

theorem spanMessage_append {len m crc : List Byte} (hlen : len.length = 4) (hcrc : crc.length = 4) :
    spanMessage (len ++ m ++ crc) = m := by
  rw [spanMessage, List.length_append, hcrc, Nat.add_sub_cancel, List.take_left, List.drop_left' hlen]

/-- Four bytes or-ed into their places are the word put together from them. -/
theorem or_shiftLeft_eq_wordOfBytes (b3 b2 b1 b0 : Byte) :
    (b3.setWidth 32 <<< 24) ||| (b2.setWidth 32 <<< 16) ||| (b1.setWidth 32 <<< 8) ||| b0.setWidth 32 =
      wordOfBytes b3 b2 b1 b0 := by
  apply BitVec.eq_of_getLsbD_eq
  intro i hi
  rw [getLsbD_wordOfBytes, ← BitVec.shiftLeft_zero (b0.setWidth 32)]
  simp only [BitVec.getLsbD_or, getLsbD_shiftedByte _ _ hi]
  split_ifs with h0 h1 h2 <;>
    simp (disch := omega) only [decide_eq_true, decide_eq_false, BitVec.getLsbD_of_ge, Bool.true_and, Bool.false_and,
      Bool.or_false, Bool.false_or, Nat.sub_sub, Nat.sub_zero]

/-- The stored CRC's lanes are the last four bytes. -/
theorem laneBytes_storedCrc (front : List Byte) {crc : List Byte} (h : crc.length = 4) :
    laneBytes 4 (storedCrc (front ++ crc)) = crc := by
  match crc, h with
  | [b3, b2, b1, b0], _ =>
    have hstored : storedCrc (front ++ [b3, b2, b1, b0]) = wordOfBytes b3 b2 b1 b0 := by
      rw [← or_shiftLeft_eq_wordOfBytes]
      simp [storedCrc]
    rw [hstored, laneBytes_wordOfBytes]

/-- The verdict of a chunk by its parts: the length field does not enter. -/
theorem verdictOf_append {len m crc : List Byte} (hlen : len.length = 4) (hm : 4 ≤ m.length) (hcrc : crc.length = 4) :
    verdictOf (len ++ m ++ crc) = if crc = laneBytes 4 (crc32 m) then .ok else .crcMismatch := by
  have hlong : ¬ (len ++ m ++ crc).length < 12 := by simp only [List.length_append]; omega
  have hstored : storedCrc (len ++ m ++ crc) = crc32 m ↔ crc = laneBytes 4 (crc32 m) := by
    rw [← laneBytes_four_injective.eq_iff, laneBytes_storedCrc (len ++ m) hcrc]
  rw [verdictOf, if_neg hlong, crcVerdict, spanMessage_append hlen hcrc]
  exact if_congr hstored rfl rfl

theorem four_le_length_message (ty : Vector Byte 4) (payload : List Byte) : 4 ≤ (ty.toList ++ payload).length := by
  rw [List.length_append, Vector.length_toList]; omega

theorem chunkWire_eq (ty : Vector Byte 4) (payload : List Byte) (crc : Word) :
    chunkWire ty payload crc =
      laneBytes 4 (BitVec.ofNat 32 payload.length) ++ (ty.toList ++ payload) ++ laneBytes 4 crc := by
  rw [chunkWire, ← List.append_assoc]

theorem verdictOf_chunkWire (ty : Vector Byte 4) (payload : List Byte) :
    verdictOf (chunkWire ty payload (crc32 (ty.toList ++ payload))) = .ok := by
  rw [chunkWire_eq, verdictOf_append (length_laneBytes 4 _) (four_le_length_message ty payload) (length_laneBytes 4 _),
    if_pos rfl]

/-! ### Corruption (R148) -/

/-- A message with one byte changed has another CRC. -/
theorem crc32_set_ne {m : List Byte} {k : Nat} {b b' : Byte} (hb : m[k]? = some b) (h : b' ≠ b) :
    crc32 (m.set k b') ≠ crc32 m := by
  obtain ⟨hk, hget⟩ := List.getElem?_eq_some_iff.mp hb
  have hm : m = m.take k ++ b :: m.drop (k + 1) := by
    rw [← hget, List.cons_getElem_drop_succ, List.take_append_drop]
  rw [List.set_eq_take_append_cons_drop, if_pos hk]
  nth_rewrite 3 [hm]
  exact crc32_ne_of_byte_ne _ _ h

theorem set_ne_self {l : List Byte} {k : Nat} {b b' : Byte} (hb : l[k]? = some b) (h : b' ≠ b) : l.set k b' ≠ l := by
  intro heq
  obtain ⟨hk, -⟩ := List.getElem?_eq_some_iff.mp hb
  rw [← heq, List.getElem?_set_self hk] at hb
  exact h (Option.some.inj hb)

/-- One byte changed in a chunk whose stored CRC is right: in the length field the verdict stays, anywhere else it does
not. -/
theorem verdictOf_set {len m crc : List Byte} (hlen : len.length = 4) (hm : 4 ≤ m.length)
    (hcrc : crc = laneBytes 4 (crc32 m)) {i : Nat} {b b' : Byte} (hb : (len ++ m ++ crc)[i]? = some b) (h : b' ≠ b) :
    verdictOf ((len ++ m ++ crc).set i b') = if i < 4 then .ok else .crcMismatch := by
  have hcrcLen : crc.length = 4 := hcrc ▸ length_laneBytes 4 _
  rw [List.append_assoc, List.getElem?_append, hlen] at hb
  rw [List.append_assoc, List.set_append, hlen]
  split_ifs at hb ⊢ with hi
  · rw [← List.append_assoc, verdictOf_append (by rw [List.length_set, hlen]) hm hcrcLen, if_pos hcrc]
  · rw [List.getElem?_append] at hb
    rw [List.set_append]
    split_ifs at hb ⊢ with hi'
    · have hne : crc ≠ laneBytes 4 (crc32 (m.set (i - 4) b')) := fun heq =>
        crc32_set_ne hb h (laneBytes_four_injective (heq.symm.trans hcrc))
      rw [← List.append_assoc, verdictOf_append hlen (by rw [List.length_set]; exact hm) hcrcLen, if_neg hne]
    · have hne : crc.set (i - 4 - m.length) b' ≠ laneBytes 4 (crc32 m) := hcrc ▸ set_ne_self (hcrc ▸ hb) h
      rw [← List.append_assoc, verdictOf_append hlen hm (by rw [List.length_set, hcrcLen]), if_neg hne]

end Sys2Proof.Machine

open Sys2Proof Sys2Proof.Machine

/-- Settles O52: one pass of the generator is void exactly where ERR = 1, and what restarts make of such a pass. -/
theorem generateReturnsCrc : Obligations.GenerateReturnsCrc := by
  refine ⟨fun ty payload s => ?pass, fun restarts ty payload s => ?anyRestarts, fun restarts ty payload s => ?cleared,
    fun n ty payload s hs => ?neverCleared⟩
  case pass =>
    have hpass := generateAttempt_voidOnErr ty payload
    exact ⟨generateDone ty payload s, hpass.answers s, rfl, rfl, rfl,
      fun restarts hs => hpass.restarting_of_err_false rfl restarts hs,
      fun txns restarts hs => hpass.restarting_of_err rfl txns restarts hs⟩
  case anyRestarts => exact (generateAttempt_voidOnErr ty payload).restarting_result rfl rfl restarts s
  case cleared => exact (generateAttempt_voidOnErr ty payload).restarting_clrErr rfl rfl restarts s
  case neverCleared => exact (generateAttempt_voidOnErr ty payload).restarting_replicate_nil rfl n hs

/-- Settles O53: one pass of either validator is void exactly where ERR = 1 and gives the same verdict elsewhere. -/
theorem validateVerdict : Obligations.ValidateVerdict := by
  refine ⟨fun restarts c s hc hs => ?noError, fun c s hc hs => ?error, fun restarts c s hc => ?cleared,
    fun restarts c s hc => ⟨validate_tooShort restarts hc s, validateBySoftware_tooShort restarts hc s⟩⟩
  case noError =>
    exact ⟨⟨_, (validateAttempt_voidOnErr hc).restarting_of_err_false (crcVerdict_not_void c) restarts hs, rfl⟩,
      ⟨_, (validateBySoftwareAttempt_voidOnErr hc).restarting_of_err_false (crcVerdict_not_void c) restarts hs, rfl, rfl, rfl⟩⟩
  case error =>
    have hpass := validateAttempt_voidOnErr hc
    have hsoftware := validateBySoftwareAttempt_voidOnErr hc
    exact ⟨⟨validateDone c s, (hpass.answers s).trans (by rw [hs]; rfl), hs, rfl,
        fun txns restarts => hpass.restarting_of_err rfl txns restarts hs⟩,
      ⟨softwareDone c s, (hsoftware.answers s).trans (by rw [hs]; rfl), hs, rfl,
        fun txns restarts => hsoftware.restarting_of_err rfl txns restarts hs⟩⟩
  case cleared =>
    exact ⟨(validateAttempt_voidOnErr hc).restarting_clrErr rfl (crcVerdict_not_void c) restarts s,
      (validateBySoftwareAttempt_voidOnErr hc).restarting_clrErr rfl (crcVerdict_not_void c) restarts s⟩

/-- Settles O54: the generator's CRC on the wire is the stored CRC the validator expects (`verdictOf_chunkWire`). -/
theorem generatedChunkValidates : Obligations.GeneratedChunkValidates := by
  refine ⟨fun restarts restarts' ty payload s s' hs hs' => ?noError, fun restarts restarts' ty payload s s' => ?cleared⟩
  case noError =>
    have hgenerate := (generateAttempt_voidOnErr ty payload).restarting_of_err_false
      (isVoid := Generated.isVoid) rfl restarts hs
    obtain ⟨t', hvalidate, -⟩ := validate_of_err_false restarts' _ hs'
    exact ⟨_, _, t', hgenerate, verdictOf_chunkWire ty payload ▸ hvalidate⟩
  case cleared =>
    obtain ⟨t, hgenerate⟩ := (generateAttempt_voidOnErr ty payload).restarting_clrErr
      (isVoid := Generated.isVoid) rfl rfl restarts s
    obtain ⟨t', hvalidate⟩ := validate_clrErr restarts' _ s'
    exact ⟨_, t, t', hgenerate, verdictOf_chunkWire ty payload ▸ hvalidate⟩

/-- Settles O55: `verdictOf_set` for a flipped bit of a chunk on the wire. -/
theorem corruptionIsDetected : Obligations.CorruptionIsDetected := by
  intro restarts ty payload s i j b hs hj hb
  obtain ⟨t, hvalidate, -⟩ := validate_of_err_false restarts _ hs
  refine ⟨t, hvalidate.trans ?_⟩
  rw [chunkWire_eq] at hb ⊢
  rw [verdictOf_set (length_laneBytes 4 _) (four_le_length_message ty payload) rfl hb (flipBit_ne b hj)]

/-- Settles O56: a verdict reads nothing of the state but ERR; a container is its chunks (`validateAll_eq_ok_iff`). -/
theorem chunksAreIndependent : Obligations.ChunksAreIndependent := by
  refine ⟨fun restarts c s s' hs => validate_congr restarts c hs, fun restarts chunks s hs => ?noError,
    fun restarts chunks s => ?cleared⟩
  case noError =>
    exact validateAll_eq_ok_iff (P := fun s => s.err = false) (fun c _ h => validate_of_err_false restarts c h) chunks hs
  case cleared =>
    refine validateAll_eq_ok_iff (P := fun _ => True) (fun c s _ => ?_) chunks trivial
    obtain ⟨t, ht⟩ := validate_clrErr restarts c s
    exact ⟨t, ht, trivial⟩

end

section
/-! PROOFS, family other: the window's addresses (spec/20_memory.md R40) and the edges of the informative port (R42, R186). -/

namespace Sys2Proof.Machine

open Sys2Proof

/-! ### The window (R40) -/

theorem windowOffset_crcBase_add (off : BitVec 5) : windowOffset (Config.crcBase + off.toNat) = some off := by
  have hlt := off.isLt
  rw [windowOffset, if_pos (by omega), Nat.add_sub_cancel_left, BitVec.ofNat_toNat, BitVec.setWidth_eq]

theorem windowOffset_outside {address : Nat} (h : address < Config.crcBase ∨ Config.crcBase + 32 ≤ address) :
    windowOffset address = none := if_neg (by omega)

/-! ### The port (R42) -/

/-- The last answer is not part of what an instruction reads. -/
theorem execNext_idle (i : Instr) (s : State) : execNext i s.idle = execNext i s := by
  cases i with
  | busErr cause desc w => simp only [execNext, State.recordError_eq]; rfl
  | _ => rfl

variable {p : Pins} {q : PortState}

/-- The edge that accepts a request. -/
theorem clockEdge_accept (hflight : q.inFlight = none) (hrst : p.rst = false) (hvalid : p.reqValid = true) :
    clockEdge p q = .next ⟨q.block.idle, some (pinsTxn p, Config.latency q.accepted (pinsTxn p)), q.accepted + 1⟩ := by
  simp [clockEdge, hflight, hrst, hvalid]

/-- A wait state: nothing on the pins but `rst` is looked at. -/
theorem clockEdge_wait (hrst : p.rst = false) (s : State) (txn : Txn) (k n : Nat) :
    clockEdge p ⟨s.idle, some (txn, k + 1), n⟩ = .next ⟨s.idle, some (txn, k), n⟩ := by
  simp [clockEdge, hrst, State.idle]

/-- The edge of the answer. -/
theorem clockEdge_answer (hrst : p.rst = false) (s : State) (txn : Txn) (n : Nat) :
    clockEdge p ⟨s.idle, some (txn, 0), n⟩ = .next ⟨execNext (decode txn) s, none, n⟩ := by
  simp [clockEdge, hrst, issue_eq, execNext_idle]

/-- Edges fewer than the wait states: the transaction is still in flight. -/
theorem clockEdges_wait {ps : List Pins} (hrst : ∀ p ∈ ps, p.rst = false) (s : State) (txn : Txn) (k n : Nat) :
    clockEdges ps ⟨s.idle, some (txn, ps.length + k), n⟩ = .next ⟨s.idle, some (txn, k), n⟩ := by
  induction ps with
  | nil => rw [List.length_nil, Nat.zero_add, clockEdges]
  | cons p ps ih =>
    obtain ⟨hp, hps⟩ := List.forall_mem_cons.mp hrst
    rw [List.length_cons, Nat.succ_add, clockEdges, clockEdge_wait hp, andThen_next, ih hps]

/-- One edge more than the wait states: the answer, as the transaction model gives it. -/
theorem clockEdges_answer {ps : List Pins} (hrst : ∀ p ∈ ps, p.rst = false) {k : Nat} (hlen : ps.length = k + 1) (s : State)
    (txn : Txn) (n : Nat) :
    clockEdges ps ⟨s.idle, some (txn, k), n⟩ = .next ⟨execNext (decode txn) s, none, n⟩ := by
  induction k generalizing ps with
  | zero =>
    obtain ⟨p, rfl⟩ := List.length_eq_one_iff.mp hlen
    rw [clockEdges, clockEdge_answer (hrst p List.mem_cons_self), andThen_next, clockEdges]
  | succ k ih =>
    obtain ⟨p, ps, rfl⟩ := List.exists_cons_of_length_eq_add_one hlen
    obtain ⟨hp, hps⟩ := List.forall_mem_cons.mp hrst
    rw [clockEdges, clockEdge_wait hp, andThen_next, ih hps (Nat.succ.inj hlen)]

end Sys2Proof.Machine

open Sys2Proof Sys2Proof.Machine

/-- Settles O17: the base is 32 times a number, and the two branches of `windowOffset`. -/
theorem windowRouting : Obligations.WindowRouting :=
  ⟨Nat.mul_mod_right 32 _, windowOffset_crcBase_add, fun _ => windowOffset_outside⟩

/-- Settles O58: the accepting edge, then `clockEdges_wait` and `clockEdges_answer`. -/
theorem portAnswersAfterLatency : Obligations.PortAnswersAfterLatency := by
  intro p ps q hflight hrst hvalid hpins hlen
  refine ⟨⟨_, issue_eq _ _, ?answer⟩, fun n hn => ⟨⟨q.block.idle,
    some (pinsTxn p, Config.latency q.accepted (pinsTxn p) - n), q.accepted + 1⟩, ?wait, rfl, rfl⟩⟩
  case answer =>
    rw [clockEdges, clockEdge_accept hflight hrst hvalid, andThen_next]
    exact clockEdges_answer hpins hlen _ _ _
  case wait =>
    have htake : (ps.take n).length = n := by rw [List.length_take, hlen]; omega
    have hwait := clockEdges_wait (fun p' h => hpins p' (List.mem_of_mem_take h)) q.block (pinsTxn p)
      (Config.latency q.accepted (pinsTxn p) - n) (q.accepted + 1) (ps := ps.take n)
    rw [htake, Nat.add_sub_cancel' hn] at hwait
    rw [clockEdges, clockEdge_accept hflight hrst hvalid, andThen_next, hwait]

end

section
/-! PROOFS, family other: the BUS line (spec/30_encoding.md R66). Words with blanks between them are read as those words, and
hexadecimal digits as the number they were written from. -/

namespace Sys2Proof.Machine

open Sys2Proof

/-! ### Words of a line -/

/-- A character that neither ends a word nor starts a quotation. -/
def isPlain (c : Char) : Bool := !(isBlank c || isSemicolon c || isComma c || isDoubleQuote c || isSingleQuote c)

/-- Words with one blank between each two. -/
def spaced : List (List Char) → List Char
  | [] => []
  | [w] => w
  | w :: w' :: ws => w ++ ' ' :: spaced (w' :: ws)

theorem lexLine_between_plain {c : Char} (h : isPlain c = true) (cs : List Char) :
    lexLine .between (c :: cs) = lexLine (.inWord [c]) cs := by
  simp only [isPlain, Bool.not_eq_true', Bool.or_eq_false_iff] at h
  obtain ⟨⟨⟨⟨hblank, hsemi⟩, hcomma⟩, hdouble⟩, hsingle⟩ := h
  simp [lexLine, hblank, hsemi, hcomma, hdouble, hsingle]

theorem lexLine_inWord_plain {c : Char} (h : isPlain c = true) (acc cs : List Char) :
    lexLine (.inWord acc) (c :: cs) = lexLine (.inWord (c :: acc)) cs := by
  simp only [isPlain, Bool.not_eq_true', Bool.or_eq_false_iff] at h
  obtain ⟨⟨⟨⟨hblank, hsemi⟩, hcomma⟩, -⟩, -⟩ := h
  simp [lexLine, hblank, hsemi, hcomma]

/-- A word is read up to what stands behind it. -/
theorem lexLine_inWord_append {cs : List Char} (h : cs.all isPlain = true) (acc rest : List Char) :
    lexLine (.inWord acc) (cs ++ rest) = lexLine (.inWord (cs.reverse ++ acc)) rest := by
  induction cs generalizing acc with
  | nil => rfl
  | cons c cs ih =>
    rw [List.all_cons, Bool.and_eq_true] at h
    obtain ⟨hc, hcs⟩ := h
    rw [List.cons_append, lexLine_inWord_plain hc, ih hcs, List.reverse_cons, List.append_assoc, List.singleton_append]

theorem lexLine_between_append {w : List Char} (hne : w ≠ []) (h : w.all isPlain = true) (rest : List Char) :
    lexLine .between (w ++ rest) = lexLine (.inWord w.reverse) rest := by
  cases w with
  | nil => exact absurd rfl hne
  | cons c cs =>
    rw [List.all_cons, Bool.and_eq_true] at h
    obtain ⟨hc, hcs⟩ := h
    rw [List.cons_append, lexLine_between_plain hc, lexLine_inWord_append hcs, List.reverse_cons]

/-- The words of a line are its tokens. -/
theorem lexLine_spaced {ws : List (List Char)} (h : ∀ w ∈ ws, w ≠ [] ∧ w.all isPlain = true) :
    lexLine .between (spaced ws) = some (ws.map .word) := by
  induction ws using spaced.induct with
  | case1 => rfl
  | case2 w =>
    obtain ⟨hne, hw⟩ := h w List.mem_cons_self
    rw [spaced, ← List.append_nil w, lexLine_between_append hne hw, lexLine, List.reverse_reverse]
    simp
  | case3 w w' ws ih =>
    obtain ⟨⟨hne, hw⟩, hws⟩ := List.forall_mem_cons.mp h
    have hblank : isBlank ' ' = true := by decide
    rw [spaced, lexLine_between_append hne hw, lexLine, if_pos hblank, ih hws, List.reverse_reverse]
    rfl

/-! ### Hexadecimal digits -/

theorem digitValue_hexDigit (d : BitVec 4) : digitValue (hexDigit d) = some d.toNat := by
  revert d; decide

theorem all_isPlain_hexDigits (n : Nat) (w : Word) : (hexDigits n w).all isPlain = true := by
  have hdigit : ∀ d : BitVec 4, isPlain (hexDigit d) = true := by decide
  induction n with
  | zero => rfl
  | succ n ih => rw [hexDigits, List.all_cons, hdigit, ih, Bool.and_self]

/-- Digits written from a word are read as its low digits, behind what was read before. -/
theorem digitsValue_hexDigits (n acc : Nat) (w : Word) :
    digitsValue 16 acc (hexDigits n w) = some (16 ^ n * acc + w.toNat % 16 ^ n) := by
  induction n generalizing acc with
  | zero => simp [hexDigits, digitsValue, Nat.mod_one]
  | succ n ih =>
    have hdigit : (w.extractLsb' (4 * n) 4).toNat = w.toNat / 16 ^ n % 16 := by
      rw [BitVec.extractLsb'_toNat, Nat.shiftRight_eq_div_pow, Nat.pow_mul]
    have hlt : w.toNat / 16 ^ n % 16 < 16 := Nat.mod_lt _ (by omega)
    simp only [hexDigits, digitsValue, digitValue_hexDigit, hdigit, if_pos hlt, ih]
    rw [Nat.mod_pow_succ, Nat.mul_add, pow_succ, Nat.mul_assoc]
    congr 1
    omega

theorem numberValue_hexDigits (n : Nat) (w : Word) :
    numberValue ('0' :: 'x' :: hexDigits (n + 1) w) = some (w.toNat % 16 ^ (n + 1)) := by
  have hvalue := digitsValue_hexDigits (n + 1) 0 w
  rw [Nat.mul_zero, Nat.zero_add] at hvalue
  exact hvalue

theorem fits_of_lt {bits v : Nat} (h : v < 2 ^ bits) : fits bits (some v) = some (BitVec.ofNat 32 v) := if_pos h

/-! ### The fields of a BUS line -/

theorem sizeField_bitDigits (sz : BitVec 2) :
    sizeField ['S', 'Z', '=', bitDigit (sz.getLsbD 1), bitDigit (sz.getLsbD 0)] = some sz := by
  revert sz; decide

theorem offsetField_hexDigits (off : BitVec 5) :
    offsetField ('O' :: 'F' :: 'F' :: '=' :: '0' :: 'x' :: hexDigits 2 (off.setWidth 32)) = some off := by
  revert off; decide

theorem wordOperand_hexDigits (w : Word) : wordOperand 32 (.word ('0' :: 'x' :: hexDigits 8 w)) = some w := by
  have hlt := w.isLt
  rw [wordOperand, numberValue_hexDigits, Nat.mod_eq_of_lt (by omega), fits_of_lt hlt, BitVec.ofNat_toNat,
    BitVec.setWidth_eq]

/-- The five words of a transaction's BUS line. -/
def busWords (t : Txn) : List (List Char) :=
  [['B', 'U', 'S'], [if t.isWrite then 'w' else 'r'],
    ['S', 'Z', '=', bitDigit (t.sizeCode.getLsbD 1), bitDigit (t.sizeCode.getLsbD 0)],
    'O' :: 'F' :: 'F' :: '=' :: '0' :: 'x' :: hexDigits 2 (t.offset.setWidth 32), '0' :: 'x' :: hexDigits 8 t.wdata]

theorem busText_eq_spaced (t : Txn) : busText t = spaced (busWords t) := by
  simp [busText, busWords, spaced]

theorem busWords_plain (t : Txn) : ∀ w ∈ busWords t, w ≠ [] ∧ w.all isPlain = true := by
  have hdir : ∀ write : Bool, isPlain (if write then 'w' else 'r') = true := by decide
  have hbit : ∀ b : Bool, isPlain (bitDigit b) = true := by decide
  have hliteral : ['B', 'U', 'S', 'Z', '=', 'O', 'F', '0', 'x'].all isPlain = true := by decide +kernel
  simp only [List.all_cons, Bool.and_eq_true] at hliteral
  simp only [busWords, List.forall_mem_cons, List.all_cons, hdir, hbit, hliteral, all_isPlain_hexDigits,
    Bool.and_self, ne_eq, reduceCtorEq, not_false_eq_true, true_and, List.not_mem_nil, false_implies, implies_true]

theorem lineOf_bus (ops : List Token) : lineOf ['B', 'U', 'S'] ops = busLine ops := rfl

end Sys2Proof.Machine

open Sys2Proof Sys2Proof.Machine

/-- Settles O57: the line is read as its five words, and each word as the field it was written from. -/
theorem busLineAssemblesToItself : Obligations.BusLineAssemblesToItself := by
  intro txn
  have hdir : (if [if txn.isWrite then 'w' else 'r'] = ['r'] then some false
      else if [if txn.isWrite then 'w' else 'r'] = ['w'] then some true else none) = some txn.isWrite := by
    cases txn.isWrite <;> decide
  rw [assembleLine, busText_eq_spaced, lexLine_spaced (busWords_plain txn)]
  simp only [busWords, List.map_cons, List.map_nil, lineOf_bus, busLine, hdir, sizeField_bitDigits, offsetField_hexDigits,
    wordOperand_hexDigits, packDesc_fields]

end
